-- ==== Sys2Proof/Word.lean ====
section
/-! DEFINITION. The words of the engine: register words, half-words and bytes (spec/00_scope.md R8). -/

namespace Sys2Proof

/-- A word: 32 bits, the width of every host access and of every register (R8, R51). -/
abbrev Word := BitVec 32

/-- A half-word: 16 bits, the checksum accumulator and the raw sensor values (R8). -/
abbrev Half := BitVec 16

/-- A byte: 8 bits (R8). -/
abbrev Byte := BitVec 8

end Sys2Proof
end

