-- ==== Sys2Proof/Config.lean ====
section
/-! DEFINITION. What is fixed for one engine: the constants the spec gives, the parameters it leaves
OPEN (spec/00_scope.md R6), their well-formedness (R7), and the free values of the model. -/

namespace Sys2Proof

/-- The two byte orders P_LX_ORDER can name (R159). -/
inductive ByteOrder where
  | le
  | be
deriving DecidableEq, Repr, Inhabited

/-- The implementation parameters of R6 whose value the spec leaves OPEN, and P_RETRY, which R6 and D17
let a model take as an argument. A speed preset is the two-bit value of CFG.SPEED; the values at 3 are
never used, since every command that uses SPEED is illegal there (R74). -/
structure Params where
  /-- P_BASE: where the register block sits in the host's own address space (R50). -/
  base : Nat
  /-- P_RETRY: the retry budget of the completion poll (R105). -/
  retry : Nat
  /-- P_UNIT_US: the base wait unit of each speed preset, in microseconds (R105). -/
  unitUs : BitVec 2 → Nat
  /-- P_EXPECT_W: the wait units expected after a write frame (R104). -/
  expectW : BitVec 2 → Nat → Nat
  /-- P_EXPECT_R: the wait units expected after a read frame (R108). -/
  expectR : BitVec 2 → Nat → Nat
  /-- P_OPC_WR: the bridge opcode "write-with-stop" (R104). -/
  opcWr : Byte
  /-- P_OPC_WRRD: the bridge opcode "write-read-with-stop" (R108). -/
  opcWrRd : Byte
  /-- P_OPC_CFG: the bridge opcode of the speed configuration write (R109). -/
  opcCfg : Byte
  /-- P_SPEED_BYTE: the configuration byte of each speed preset (R109). -/
  speedByte : BitVec 2 → Byte
  /-- P_ST_CRC_BIT: the checksum-error bit of bridge status byte 0 (R107). -/
  stCrcBit : Nat
  /-- P_DT_CMD_CONVERT: the direct sensor's conversion command byte (R132). -/
  dtCmdConvert : Byte
  /-- P_DT_CMD_READSP: the direct sensor's "read scratchpad" command byte (R133). -/
  dtCmdReadSp : Byte
  /-- P_CRC8: the 8-bit checksum over a byte sequence (R131). -/
  crc8 : List Byte → Byte
  /-- P_BT_ADDR: the secondary-bus address of the bridged temperature sensor (R141). -/
  btAddr : BitVec 7
  /-- P_BT_REG_TA: its ambient-temperature register (R144). -/
  btRegTa : Byte
  /-- P_BT_REG_MFR: its manufacturer-ID register (R143). -/
  btRegMfr : Byte
  /-- P_BT_REG_DEV: its device-ID register (R143). -/
  btRegDev : Byte
  /-- P_BT_MFR_ID: the manufacturer ID the probe expects (R143). -/
  btMfrId : Half
  /-- P_BT_DEV_ID: the device ID the probe expects (R143). -/
  btDevId : Half
  /-- P_LX_ADDR: the secondary-bus address of the illuminance sensor (R158). -/
  lxAddr : BitVec 7
  /-- P_LX_REG_CFG: its configuration register (R158). -/
  lxRegCfg : Byte
  /-- P_LX_REG_DATA: its measurement register (R162). -/
  lxRegData : Byte
  /-- P_LX_CFGVAL: the bytes LX_INIT writes for a gain and an integration-time selector (R158). -/
  lxCfgVal : Nat → Nat → List Byte
  /-- P_LX_ORDER: the byte order of the measurement register (R159). -/
  lxOrder : ByteOrder
  /-- P_GAIN_LUT: the gain factors, indexed by CFG.GSEL (R155). -/
  gainLut : List Nat
  /-- P_IT_LUT: the integration-time factors, indexed by CFG.ISEL (R155). -/
  itLut : List Nat
  /-- P_GSEL_RST: the reset value of CFG.GSEL (R30). -/
  gselRst : BitVec 3
  /-- P_ISEL_RST: the reset value of CFG.ISEL (R30). -/
  iselRst : BitVec 3
deriving Inhabited

/-- CRC_POLY, the reflected polynomial constant (R6, R85). -/
def Config.crcPoly : Half := 0xA001#16

/-- CRC_SEED, the seed of every bridge frame checksum (R6, R101). -/
def Config.crcSeed : Half := 0x0000#16

/-- P_BUF_SIZE, the bytes of the frame buffer (R6, R33). -/
def Config.bufSize : Nat := 16

/-- P_RETRY as the spec decides it (R6, D17): notes/assumptions/6.md. -/
def Config.retryBudget : Nat := 100

/-- DT_MIN, the least valid direct temperature, scaled x10 (R6, R139). -/
def Config.dtMin : Int := -550

/-- DT_MAX, the greatest valid direct temperature, scaled x10 (R6, R139). -/
def Config.dtMax : Int := 1250

/-- BT_OFFSET, the sign offset of the bridged temperature converter, scaled x10 (R6, R149). -/
def Config.btOffset : Int := 2560

/-- LX_BASE, the base factor of the illuminance scale (R6, R155). -/
def Config.lxBase : Nat := 36

/-- LX_SCALE, the divisor of the illuminance scale (R6, R157). -/
def Config.lxScale : Nat := 1000

/-- R7 and R6: each lookup table has 1 to 8 entries. -/
def Params.tableSizesOk (p : Params) : Bool :=
  1 ≤ p.gainLut.length && p.gainLut.length ≤ 8 && (1 ≤ p.itLut.length && p.itLut.length ≤ 8)

/-- R7: every table entry is at least 1. -/
def Params.entriesPositive (p : Params) : Bool :=
  p.gainLut.all (fun g => 1 ≤ g) && p.itLut.all (fun t => 1 ≤ t)

/-- R7: the largest scale factor is at most 65535, said of every pair of entries. -/
def Params.factorBounded (p : Params) : Bool :=
  p.gainLut.all fun g => p.itLut.all fun t => Config.lxBase * g * t ≤ 65535

/-- R7: the gain entry at P_GSEL_RST is 2. -/
def Params.defaultGainOk (p : Params) : Bool :=
  p.gainLut[p.gselRst.toNat]? == some 2

/-- R7: the integration-time entry at P_ISEL_RST is 8. -/
def Params.defaultTimeOk (p : Params) : Bool :=
  p.itLut[p.iselRst.toNat]? == some 8

/-- R7: P_LX_CFGVAL has 1 to 16 bytes for every selection inside the tables. -/
def Params.cfgValOk (p : Params) : Bool :=
  (List.range p.gainLut.length).all fun g => (List.range p.itLut.length).all fun t =>
    1 ≤ (p.lxCfgVal g t).length && (p.lxCfgVal g t).length ≤ 16

/-- R7: P_ST_CRC_BIT is in 0..7. -/
def Params.crcBitOk (p : Params) : Bool := p.stCrcBit ≤ 7

/-- Well-formedness of the parameters, which a model checks before it runs (R7). -/
def Params.wf (p : Params) : Bool :=
  p.tableSizesOk && p.entriesPositive && p.factorBounded && p.defaultGainOk && p.defaultTimeOk &&
    p.cfgValOk && p.crcBitOk

/-- One set of parameters that meets R7: it shows that the checks can be met and carries no other
meaning (no statement rests on a value of it). -/
def Params.sample : Params :=
  { (default : Params) with gainLut := [2], itLut := [8], lxCfgVal := fun _ _ => [0#8] }

/-- Parameters with their check (R7), so that an ill-formed set cannot be built. -/
structure CheckedParams where
  /-- The parameters. -/
  params : Params := Params.sample
  /-- They meet R7. -/
  ok : params.wf = true := by decide
deriving Inhabited

/-- The OPEN parameters of R6: any set that meets R7, and nothing more is known of it. -/
opaque Config.chosen : CheckedParams

/-- The parameters of this engine: the OPEN ones free, P_RETRY at the value the spec decides (R6). -/
def Config.params : Params := { Config.chosen.params with retry := Config.retryBudget }

/-! The free values. Each is applied to the model's draw counter (State.env.draws), so that every
occurrence is a draw of its own; nothing is known of any of them. -/

/-- Whether the bus answers ok (R12, R20: an unconstrained oracle). -/
opaque Config.freeOk : Nat → Bool

/-- The bit a `BusReadBit` answers (R12, R20). -/
opaque Config.freeBit : Nat → Bool

/-- Byte number k of what a `BusRead` answers (R12, R20). -/
opaque Config.freeByte : Nat → Nat → Byte

/-- What a host read of CRC, RESULT, BRSTAT or BUF returns while busy (R55). -/
opaque Config.freeRead : Nat → Word

end Sys2Proof
end

