-- ==== Sys2Proof/Syntax.lean ====
section
/-! DEFINITION. The commands of the engine, one constructor for each row of spec/opcode_table.json
(spec/30_encoding.md R73). A command word has no register, immediate or mode field (R70, R77): every
operand is read from the host-visible registers, so no constructor carries an argument. -/

namespace Sys2Proof

/-- The fifteen commands of R73. -/
inductive Instr where
  /-- 0x00, R90. -/
  | nop
  /-- 0x01, R91. -/
  | crcByte
  /-- 0x02, R92. -/
  | crcBuf
  /-- 0x10, R109. -/
  | brConfig
  /-- 0x11, R110. -/
  | brWrite
  /-- 0x12, R111. -/
  | brRead
  /-- 0x20, R132. -/
  | dtStart
  /-- 0x21, R133. -/
  | dtRead
  /-- 0x22, R134. -/
  | dtDecode
  /-- 0x30, R143. -/
  | btProbe
  /-- 0x31, R144. -/
  | btRead
  /-- 0x32, R146. -/
  | btDecode
  /-- 0x40, R161. -/
  | lxInit
  /-- 0x41, R162. -/
  | lxRead
  /-- 0x42, R163. -/
  | lxDecode
deriving DecidableEq, Repr, Inhabited

end Sys2Proof
end

