-- ==== Sys2Proof/WellFormed.lean ====
section
/-! DEFINITION. Well-formed command words (spec/30_encoding.md R70, R72, R75). A command has no operand
field, so every `Instr` is well formed as syntax and what can be ill formed is the word; the operands
in the registers are checked by the running command (R74, Machine/Operands.lean) and the parameters
by `Params.wf` (R7, Config.lean). -/

namespace Sys2Proof

/-- CMD[31:8], reserved, is 0 (R70, R72). -/
def CommandWord.reservedClear (w : Word) : Bool := w.toNat / 256 == 0

/-- OPCODE is one of R73, that is, in none of the ranges R75 lists. -/
def CommandWord.opcodeDefined (w : Word) : Bool :=
  let op := w.toNat % 256
  op ≤ 0x02 || (0x10 ≤ op && op ≤ 0x12) || (0x20 ≤ op && op ≤ 0x22) ||
    (0x30 ≤ op && op ≤ 0x32) || (0x40 ≤ op && op ≤ 0x42)

/-- A word that encodes a command (R70, R72, R75). -/
def CommandWord.wf (w : Word) : Bool := CommandWord.reservedClear w && CommandWord.opcodeDefined w

end Sys2Proof
end

