-- ==== Sys2Proof/Decode.lean ====
section
/-! DEFINITION. The decoder and the encoder of command words (spec/30_encoding.md R70 to R75), and the
byte order of a register word (spec/20_memory.md R57). -/

namespace Sys2Proof

/-- Why a command word, or a row of bytes, is no command. -/
inductive Reject where
  /-- Fewer than the four bytes of a command word (R51, R70). -/
  | truncated (bytes : Nat)
  /-- CMD[31:8] is not 0 (R72). -/
  | reservedBits (w : Word)
  /-- An OPCODE that R73 does not define (R75). -/
  | undefinedOpcode (op : Byte)
deriving DecidableEq, Repr

/-- OPCODE = CMD[7:0] (R24, R70). -/
def opcodeField (w : Word) : Byte := w.extractLsb' 0 8

/-- CMD[31:8], reserved (R24, R70). -/
def reservedField (w : Word) : BitVec 24 := w.extractLsb' 8 24

/-- The opcode map of R73, read from OPCODE to the command; `none` is R75. -/
def decodeOpcode (op : Byte) : Option Instr :=
  match op.toNat with
  | 0x00 => some .nop
  | 0x01 => some .crcByte
  | 0x02 => some .crcBuf
  | 0x10 => some .brConfig
  | 0x11 => some .brWrite
  | 0x12 => some .brRead
  | 0x20 => some .dtStart
  | 0x21 => some .dtRead
  | 0x22 => some .dtDecode
  | 0x30 => some .btProbe
  | 0x31 => some .btRead
  | 0x32 => some .btDecode
  | 0x40 => some .lxInit
  | 0x41 => some .lxRead
  | 0x42 => some .lxDecode
  | _ => none

/-- The decode checks of R71 in their order: the reserved bits (R72), then the opcode (R75). -/
def decodeWord (w : Word) : Except Reject Instr :=
  if reservedField w = 0#24 then
    match decodeOpcode (opcodeField w) with
    | some i => .ok i
    | none => .error (.undefinedOpcode (opcodeField w))
  else .error (.reservedBits w)

/-- The word whose byte lanes are b0 (bits 7:0) to b3 (bits 31:24) (R57). -/
def wordOfBytes (b0 b1 b2 b3 : Byte) : Word := b3 ++ b2 ++ b1 ++ b0

/-- Byte lane k of a word: bits 8k+7 to 8k (R57). -/
def byteLane (w : Word) (k : Nat) : Byte := w.extractLsb' (8 * k) 8

/-- The bytes of a word, the lower-numbered lane first (R57). -/
def bytesOfWord (w : Word) : List Byte := [byteLane w 0, byteLane w 1, byteLane w 2, byteLane w 3]

/-- Decodes the command at the head of a row of bytes; answers it with the bytes after it. -/
def decodeBytes : List Byte → Except Reject (Instr × List Byte)
  | b0 :: b1 :: b2 :: b3 :: rest =>
    match decodeWord (wordOfBytes b0 b1 b2 b3) with
    | .ok i => .ok (i, rest)
    | .error r => .error r
  | short => .error (.truncated short.length)

/-- The OPCODE of each command (R73). -/
def opcodeOf : Instr → Byte
  | .nop => 0x00#8
  | .crcByte => 0x01#8
  | .crcBuf => 0x02#8
  | .brConfig => 0x10#8
  | .brWrite => 0x11#8
  | .brRead => 0x12#8
  | .dtStart => 0x20#8
  | .dtRead => 0x21#8
  | .dtDecode => 0x22#8
  | .btProbe => 0x30#8
  | .btRead => 0x31#8
  | .btDecode => 0x32#8
  | .lxInit => 0x40#8
  | .lxRead => 0x41#8
  | .lxDecode => 0x42#8

/-- The command word of a command: reserved bits 0, OPCODE in bits 7:0 (R70, R80). -/
def encode (i : Instr) : Word := 0#24 ++ opcodeOf i

/-- The command word as the register holds its bytes (R57). -/
def encodeBytes (i : Instr) : List Byte := bytesOfWord (encode i)

/-- The command word made of the low `nbits` bits of `w`, every higher bit 0. -/
def tableWord (nbits w : Nat) : Word := BitVec.ofNat 32 (w % 2 ^ nbits)

/-- What the decoder reads from an opcode-table word; no command is longer than 32 bits (R70). -/
def decodeTableWord (nbits w : Nat) : Option Instr :=
  if nbits ≤ 32 then
    match decodeBytes (bytesOfWord (tableWord nbits w)) with
    | .ok (i, _) => some i
    | .error _ => none
  else none

end Sys2Proof
end

