-- ==== Sys2Proof/Machine/State.lean ====
section
/-! DEFINITION. The state of the machine as plain data (spec/10_state.md): the host-visible registers, the
frame buffer and the sequencer, which are all the engine has (R22), and beside them, in `Env`, what the
model holds of the other two agents of R20, the host and the bus. Reset is spec/70_reset_and_hazards.md R191. -/

namespace Sys2Proof.Machine

/-- The fields of STATUS (R25); its reserved bits hold nothing and read 0. -/
structure Status where
  /-- BUSY, STATUS[0]: a command is running. -/
  busy : Bool
  /-- ERR, STATUS[1]: the last completed command failed. -/
  err : Bool
  /-- CODE, STATUS[4:2]: the status code of the last completed command (R171). -/
  code : BitVec 3
  /-- WIGN, STATUS[8]: a host write was dropped (R54). -/
  wign : Bool
deriving DecidableEq, Repr

/-- The fields of XFER (R28). -/
structure Xfer where
  /-- ADDR, XFER[6:0]: the secondary-bus address. -/
  addr : BitVec 7
  /-- REG, XFER[15:8]: the register number. -/
  reg : Byte
  /-- LEN, XFER[20:16]: a byte count. -/
  len : BitVec 5
deriving DecidableEq, Repr

/-- The fields of CFG (R30). -/
structure Cfg where
  /-- SPEED, CFG[1:0]: the speed preset. -/
  speed : BitVec 2
  /-- GSEL, CFG[6:4]: the gain selector. -/
  gsel : BitVec 3
  /-- ISEL, CFG[10:8]: the integration-time selector. -/
  isel : BitVec 3
deriving DecidableEq, Repr

/-- The fields of BRSTAT (R32): the bridge's two status bytes. -/
structure Brstat where
  /-- ST0, BRSTAT[7:0]. -/
  st0 : Byte
  /-- ST1, BRSTAT[15:8]. -/
  st1 : Byte
deriving DecidableEq, Repr

/-- The byte memory BUF (R33): its cells by index, in one canonical form (`Memory.wf`, Machine/Ops.lean). -/
abbrev Memory := List Host.Cell

/-- The host-visible registers of R23; the four words BUF0..BUF3 are one constructor. -/
inductive Reg where
  | cmd
  | status
  | crc
  | devidLo
  | devidHi
  | xfer
  | data
  | cfg
  | result
  | brstat
  | buf (k : Fin 4)
deriving DecidableEq, Repr

/-- A place in a command's pseudocode (R35): the start, or the point just after a bus primitive, with
that primitive's answer, which the next step's computation reads (R21). `none` is an answer ok = false,
whose bytes or bit carry no meaning (R12). -/
inductive Point where
  /-- Before the first step (R71). -/
  | start
  /-- After `BusSelect`. -/
  | selected (ok : Bool)
  /-- After the command's or the frame's `BusWrite` number `count`, the trailer not among them. -/
  | sent (count : Nat) (ok : Bool)
  /-- After the `BusWrite` of a frame's trailer (R103). -/
  | sentTrailer (ok : Bool)
  /-- After the poll's first `BusReadBit` (R105). -/
  | sampledFirst (bit : Option Bool)
  /-- After a `Sleep` of the expected wait, with `left` of them still to come (R105). -/
  | sleptExpected (left : Nat)
  /-- After a `BusReadBit` of the retry loop, with `left` rounds still to come (R105). -/
  | sampledRetry (left : Nat) (bit : Option Bool)
  /-- After a `Sleep` of the retry loop, with `left` rounds still to come (R105). -/
  | sleptRetry (left : Nat)
  /-- After the `BusRead(2)` of the status bytes (R106). -/
  | gotStatus (bytes : Option (List Byte))
  /-- After the `BusRead` of a payload (R108) or of the scratchpad (R133). -/
  | gotPayload (bytes : Option (List Byte))
deriving DecidableEq, Repr

/-- The position p of R35: the place, and the bytes BT_PROBE holds from its first read while it does its
second (the r1 of R143). -/
structure Pos where
  point : Point
  held : Option (List Byte)
deriving DecidableEq, Repr

/-- The sequencer (R35): idle, or running the latched command word c at position p. -/
inductive Seq where
  | idle
  | run (c : Word) (p : Pos)
deriving DecidableEq, Repr

/-- One answer of the bus (R12, R20); a primitive reads only what its type has. Bytes past the end of
`bytes` are free values. -/
structure BusAnswer where
  ok : Bool
  bit : Bool
  bytes : List Byte
deriving DecidableEq, Repr, Inhabited

/-- One bus primitive as it happened (R12); `none` where it answered ok = false. -/
inductive BusEvent where
  | select (id : List Byte) (ok : Bool)
  | write (l : List Byte) (ok : Bool)
  | read (n : Nat) (bytes : Option (List Byte))
  | readBit (bit : Option Bool)
  | sleep (us : Nat)
deriving DecidableEq, Repr

/-- One line of a host program (R79), or the host loop WAIT (R80). -/
inductive HostOp where
  /-- `W`: a host write at a byte offset (R50, R51). -/
  | write (offset : BitVec 8) (value : Word)
  /-- `R`: a host read. -/
  | read (offset : BitVec 8)
  /-- `WAIT`: read STATUS until the value read has BUSY = 0. -/
  | wait
deriving DecidableEq, Repr

/-- What moves next in the one total order of R61, the platform's reset (R190) among it. -/
inductive Turn where
  | host
  | engine
  | reset
deriving DecidableEq, Repr

/-- The MODEL's own fields (no state of the engine: R22, R36): the host and the bus as plain data, the
order in which the agents move, and the record of what was seen outside the engine. -/
structure Env where
  /-- The host's accesses still to come, in its program order (R20, R61). -/
  host : List HostOp
  /-- Who moves next, as far as it is scripted (R21: any interleaving). -/
  turns : List Turn
  /-- The bus's next answers, as far as they are scripted (R20: any answers). -/
  answers : List BusAnswer
  /-- How many free values were drawn: the argument of the next draw. -/
  draws : Nat
  /-- Every bus primitive so far, the oldest first (R12: each is one event). -/
  events : List BusEvent
  /-- Every host read so far with the value it returned, the oldest first. -/
  reads : List (BitVec 8 × Word)
deriving DecidableEq, Repr

/-- The machine. The first twelve fields are the engine's (R22); `env` is the model's own. -/
structure State where
  /-- CMD (R24): the value last stored, reserved bits as written. -/
  cmd : Word
  /-- STATUS (R25). -/
  status : Status
  /-- CRC.ACC (R26); CRC[31:16] holds nothing. -/
  acc : Half
  /-- DEVID_LO (R27). -/
  devidLo : Word
  /-- DEVID_HI (R27). -/
  devidHi : Word
  /-- XFER (R28). -/
  xfer : Xfer
  /-- DATA.VALUE (R29); DATA[31:16] holds nothing. -/
  data : Half
  /-- CFG (R30). -/
  cfg : Cfg
  /-- RESULT (R31): a two's-complement number. -/
  result : Word
  /-- BRSTAT (R32). -/
  brstat : Brstat
  /-- BUF (R33). -/
  buf : Memory
  /-- SEQ (R35). -/
  seq : Seq
  /-- The host, the bus and the record of them. -/
  env : Env
deriving DecidableEq, Repr

/-- Why a step stops. The engine itself raises no fault and has no stuck state (R52, R179,
spec/93_implementation_defined.md); both reasons mark states that no run from reset reaches. -/
inductive Fault where
  /-- Raised by a meaning asked for a step while SEQ is IDLE, which `step` never does. Safe: the model
  stops where the engine has no step. -/
  | notRunning
  /-- Raised by a meaning at a position that its command's pseudocode does not have. Safe: the model
  stops where the engine never is. -/
  | badPosition
deriving DecidableEq, Repr

/-- Why a command has no meaning. -/
inductive Refusal where
  /-- Raised by an arm of `exec` for a command that is not modelled: by none of them. Safe. -/
  | notModelled (mnemonic : String)
deriving DecidableEq, Repr

/-- CFG after reset (R30, R191). -/
def Cfg.reset : Cfg := ⟨0#2, Config.params.gselRst, Config.params.iselRst⟩

/-- The registers, the buffer and the sequencer after reset (R191), the environment left as it is: reset
touches only the engine (R193). -/
def State.afterReset (e : Env) : State where
  cmd := 0#32
  status := ⟨false, false, 0#3, false⟩
  acc := 0#16
  devidLo := 0#32
  devidHi := 0#32
  xfer := ⟨0#7, 0#8, 0#5⟩
  data := 0#16
  cfg := Cfg.reset
  result := 0#32
  brstat := ⟨0#8, 0#8⟩
  buf := []
  seq := .idle
  env := e

/-- No host program, no scripted turn or answer, and nothing seen yet. -/
def Env.empty : Env := ⟨[], [], [], 0, [], []⟩

/-- The machine right after reset (R191). -/
def State.reset : State := State.afterReset Env.empty

end Sys2Proof.Machine
end

