-- ==== Sys2Proof/Machine/Flags.lean ====
section
/-! DEFINITION. The named updates of State, the status codes (spec/60_exceptions.md R170, R171) and every
change of the STATUS flags (spec/10_state.md R25, R37; R71, R173, R174). -/

namespace Sys2Proof.Machine

/-! One update for each register a step writes. -/

def State.setCmd (s : State) (v : Word) : State := { s with cmd := v }
def State.setStatus (s : State) (v : Status) : State := { s with status := v }
def State.setAcc (s : State) (v : Half) : State := { s with acc := v }
def State.setDevidLo (s : State) (v : Word) : State := { s with devidLo := v }
def State.setDevidHi (s : State) (v : Word) : State := { s with devidHi := v }
def State.setXfer (s : State) (v : Xfer) : State := { s with xfer := v }
def State.setData (s : State) (v : Half) : State := { s with data := v }
def State.setCfg (s : State) (v : Cfg) : State := { s with cfg := v }
def State.setResult (s : State) (v : Word) : State := { s with result := v }
def State.setBrstat (s : State) (v : Brstat) : State := { s with brstat := v }
def State.setBuf (s : State) (v : Memory) : State := { s with buf := v }
def State.setSeq (s : State) (v : Seq) : State := { s with seq := v }
def State.setEnv (s : State) (v : Env) : State := { s with env := v }

/-- The failures a command can raise (R13, R170); IdentityMismatch is not one of them (R143). -/
inductive Failure where
  | busError
  | checksumError
  | timeoutError
  | rangeError
  | illegalCommand
deriving DecidableEq, Repr

/-- STATUS.CODE of a failure (R171). -/
def Failure.code : Failure → BitVec 3
  | .busError => 1#3
  | .checksumError => 2#3
  | .timeoutError => 3#3
  | .rangeError => 4#3
  | .illegalCommand => 6#3

/-- STATUS.CODE of None and of IdentityMismatch (R171). -/
def codeNone : BitVec 3 := 0#3
def codeMismatch : BitVec 3 := 5#3

/-- STATUS when a command starts: BUSY 1, ERR 0, CODE 0, WIGN kept (R37, R71). -/
def Status.started (st : Status) : Status := { st with busy := true, err := false, code := codeNone }

/-- STATUS when a command completes: BUSY 0, ERR and CODE as given, WIGN kept (R37, R173, R174). -/
def Status.completed (st : Status) (err : Bool) (code : BitVec 3) : Status :=
  { st with busy := false, err := err, code := code }

/-- STATUS after a host write is dropped: WIGN 1 (R25, R54). -/
def Status.dropped (st : Status) : Status := { st with wign := true }

/-- STATUS after a host write of v to it: bit 8 is write-one-to-clear, no other bit acts (R25). -/
def Status.written (st : Status) (v : Word) : Status :=
  if v.getLsbD 8 then { st with wign := false } else st

/-- A flag as a bit. -/
def flagBit (b : Bool) : BitVec 1 := BitVec.ofBool b

/-- STATUS as the host reads it (R25). -/
def Status.word (st : Status) : Word :=
  0#23 ++ flagBit st.wign ++ 0#3 ++ st.code ++ flagBit st.err ++ flagBit st.busy

end Sys2Proof.Machine
end

