-- ==== Sys2Proof/Machine/Ops.lean ====
section
/-! DEFINITION. The shared operations: the byte memory BUF (spec/10_state.md R33), the sequencer (R35), the
five bus primitives (spec/00_scope.md R12), and how a command completes: by `finish`, or by `raise`, which
is this engine's form of an exception (spec/60_exceptions.md R173, R174, R177). -/

namespace Sys2Proof.Machine

/-! ## The frame buffer -/

/-- What a byte of BUF that nothing has written reads as: its reset value (R33, R191). -/
def Memory.unlisted : Byte := 0x00#8

/-- BUF[a]. -/
def Memory.read : Memory → Nat → Byte
  | [], _ => Memory.unlisted
  | (k, v) :: rest, a => if k = a then v else Memory.read rest a

/-- Puts a byte into a sorted list of cells; a byte that reads as an unlisted one is not listed. -/
def Memory.put : Memory → Nat → Byte → Memory
  | [], a, v => if v = Memory.unlisted then [] else [(a, v)]
  | (k, w) :: rest, a, v =>
    if a < k then (if v = Memory.unlisted then (k, w) :: rest else (a, v) :: (k, w) :: rest)
    else if a = k then (if v = Memory.unlisted then rest else (a, v) :: rest)
    else (k, w) :: Memory.put rest a v

/-- BUF[a] <- v. BUF has bytes 0 to 15 only (R33); no command names another. -/
def Memory.write (m : Memory) (a : Nat) (v : Byte) : Memory :=
  if a < Config.bufSize then Memory.put m a v else m

/-- BUF[a], BUF[a+1], ... <- the bytes of the list. -/
def Memory.writeList : Memory → Nat → List Byte → Memory
  | m, _, [] => m
  | m, a, b :: rest => Memory.writeList (Memory.write m a b) (a + 1) rest

/-- [BUF[0], ..., BUF[n-1]]. -/
def Memory.readList (m : Memory) (n : Nat) : List Byte := (List.range n).map (Memory.read m)

/-- The canonical form: indices strictly rising and inside BUF, no cell that reads as an unlisted one. -/
abbrev Memory.wf (m : Memory) : Prop :=
  m.Pairwise (fun c d => c.1 < d.1) ∧ ∀ c ∈ m, c.1 < Config.bufSize ∧ c.2 ≠ Memory.unlisted

/-! ## The sequencer -/

/-- SEQ moved to another place of the running command; IDLE stays IDLE. -/
def Seq.goto : Seq → Point → Seq
  | .idle, _ => .idle
  | .run c p, pt => .run c { p with point := pt }

/-- SEQ with bytes held for later in the running command. -/
def Seq.hold : Seq → List Byte → Seq
  | .idle, _ => .idle
  | .run c p, d => .run c { p with held := some d }

/-- The bytes SEQ holds. -/
def Seq.held : Seq → Option (List Byte)
  | .idle => none
  | .run _ p => p.held

/-- SEQ = RUN. -/
def Seq.running : Seq → Bool
  | .idle => false
  | .run _ _ => true

/-- The running command goes on at another place. -/
def State.goto (s : State) (pt : Point) : State := s.setSeq (s.seq.goto pt)

/-- The running command holds bytes for later. -/
def State.hold (s : State) (d : List Byte) : State := s.setSeq (s.seq.hold d)

/-- One step of a running command: `k` gives, for each place its pseudocode has, the state after the
step. Idle, and at any other place, there is no such step (R20, R35). -/
def atPlace (s : State) (k : Point → Option State) : Host.Outcome State Fault Refusal :=
  match s.seq with
  | .idle => .fault .notRunning
  | .run _ p =>
    match k p.point with
    | some t => .next t
    | none => .fault .badPosition

/-! ## Completion -/

/-- The last step of a command (R21): STATUS written, SEQ idle (R173, R174). -/
def State.complete (s : State) (err : Bool) (code : BitVec 3) : State :=
  (s.setStatus (s.status.completed err code)).setSeq .idle

/-- `finish` (R173). -/
def finish (s : State) : State := s.complete false codeNone

/-- `finish IdentityMismatch`, of BT_PROBE only (R173). -/
def finishMismatch (s : State) : State := s.complete false codeMismatch

/-- The result-producing commands (R76). -/
def resultProducing : Instr → Bool
  | .nop => false
  | .crcByte => false
  | .crcBuf => false
  | .brConfig => false
  | .brWrite => false
  | .brRead => false
  | .dtStart => false
  | .dtRead => true
  | .dtDecode => true
  | .btProbe => true
  | .btRead => true
  | .btDecode => true
  | .lxInit => false
  | .lxRead => true
  | .lxDecode => true

/-- `raise E` in command `i` (R13, R174): a failure completion; RESULT becomes 0 if the command produces
results and ran, that is, unless E is IllegalCommand. -/
def raise (i : Instr) (e : Failure) (s : State) : State :=
  (if resultProducing i = true ∧ e ≠ .illegalCommand then s.setResult 0#32 else s).complete true e.code

/-- The completion of a word that is no command (R72, R75): IllegalCommand, RESULT kept (R174). -/
def raiseIllegalWord (s : State) : State := s.complete true Failure.illegalCommand.code

/-! ## The bus primitives

Each is one event and one engine step (R12, R21): it takes the bus's next answer, records the event, and
the command goes on at the place `k` gives for the answer. -/

/-- The bus's next answer: the scripted one, or free (R20). -/
def State.answer (s : State) : BusAnswer :=
  match s.env.answers with
  | a :: _ => a
  | [] => ⟨Config.freeOk s.env.draws, Config.freeBit s.env.draws, []⟩

/-- The n bytes of the bus's next answer; the bytes that are not scripted are free. -/
def State.answerBytes (s : State) (n : Nat) : List Byte :=
  (List.range n).map fun k => (s.answer.bytes[k]?).getD (Config.freeByte s.env.draws k)

/-- The bus's next answer is used up, and the event recorded. -/
def State.answered (s : State) (e : BusEvent) : State :=
  s.setEnv { s.env with
    answers := s.env.answers.tail, draws := s.env.draws + 1, events := s.env.events ++ [e] }

/-- The Device Identifier list: byte k is lane k of DEVID_LO, byte 4 + k lane k of DEVID_HI (R27). -/
def State.deviceId (s : State) : List Byte := bytesOfWord s.devidLo ++ bytesOfWord s.devidHi

/-- `BusSelect(DEVID)`. -/
def busSelect (k : Bool → Point) (s : State) : State :=
  (s.answered (.select s.deviceId s.answer.ok)).goto (k s.answer.ok)

/-- `BusWrite(l)`. -/
def busWrite (l : List Byte) (k : Bool → Point) (s : State) : State :=
  (s.answered (.write l s.answer.ok)).goto (k s.answer.ok)

/-- The answer of a `BusRead(n)`: n bytes, or `none` when ok is false. -/
def State.readAnswer (s : State) (n : Nat) : Option (List Byte) :=
  if s.answer.ok then some (s.answerBytes n) else none

/-- `BusRead(n)`. -/
def busRead (n : Nat) (k : Option (List Byte) → Point) (s : State) : State :=
  (s.answered (.read n (s.readAnswer n))).goto (k (s.readAnswer n))

/-- The answer of a `BusReadBit()`: the bit, or `none` when ok is false. -/
def State.bitAnswer (s : State) : Option Bool :=
  if s.answer.ok then some s.answer.bit else none

/-- `BusReadBit()`. -/
def busReadBit (k : Option Bool → Point) (s : State) : State :=
  (s.answered (.readBit s.bitAnswer)).goto (k s.bitAnswer)

/-- `Sleep(us)`: an event with no answer, no time passes in the model (R12, R206). -/
def busSleep (us : Nat) (pt : Point) (s : State) : State :=
  (s.setEnv { s.env with events := s.env.events ++ [.sleep us] }).goto pt

end Sys2Proof.Machine
end

