-- ==== Sys2Proof/Machine/Operands.lean ====
section
/-! DEFINITION. The operands of the commands (spec/30_encoding.md R76, R77), the argument checks (R74), and
the registers as words: what a host read of each returns and what a host write stores (spec/10_state.md
R23 to R33). -/

namespace Sys2Proof.Machine

/-! ## Operands of a command -/

/-- XFER.LEN as a number (R77). -/
def State.len (s : State) : Nat := s.xfer.len.toNat

/-- BUF[0..LEN-1] (R34). -/
def State.lenBytes (s : State) : List Byte := s.buf.readList s.len

/-- DATA[7:0] (R77, R91). -/
def State.dataByte (s : State) : Byte := s.data.extractLsb' 0 8

/-- CFG.GSEL and CFG.ISEL as indices (R77). -/
def State.gainIndex (s : State) : Nat := s.cfg.gsel.toNat
def State.timeIndex (s : State) : Nat := s.cfg.isel.toNat

/-- A 16-bit value from its bytes, the more significant first. -/
def halfOf (hi lo : Byte) : Half := hi ++ lo

/-- Byte k of a received list. -/
def byteAt (d : List Byte) (k : Nat) : Byte := d.getD k 0#8

/-! ## The argument checks of R74 -/

/-- CFG.SPEED is 3. -/
def State.speedIllegal (s : State) : Bool := s.cfg.speed == 3#2

/-- XFER.LEN is beyond the frame buffer. -/
def State.lenTooLong (s : State) : Bool := 16 < s.len

/-- The selection is outside a table (R156). -/
def State.selectionIllegal (p : Params) (s : State) : Bool :=
  p.gainLut.length ≤ s.gainIndex || p.itLut.length ≤ s.timeIndex

/-- The arguments of a command are illegal (R74). -/
def argsIllegal (p : Params) : Instr → State → Bool
  | .nop, _ => false
  | .crcByte, _ => false
  | .crcBuf, s => s.lenTooLong
  | .brConfig, s => s.speedIllegal
  | .brWrite, s => s.lenTooLong || s.speedIllegal
  | .brRead, s => s.len == 0 || s.lenTooLong || s.speedIllegal
  | .dtStart, _ => false
  | .dtRead, _ => false
  | .dtDecode, _ => false
  | .btProbe, s => s.speedIllegal
  | .btRead, s => s.speedIllegal
  | .btDecode, _ => false
  | .lxInit, s => s.speedIllegal || s.selectionIllegal p
  | .lxRead, s => s.speedIllegal || s.selectionIllegal p
  | .lxDecode, s => s.selectionIllegal p

/-- The start of a command: IllegalCommand if its arguments are illegal, else `go` (R71, R74). -/
def checked (p : Params) (i : Instr) (go : State → State) (s : State) : State :=
  if argsIllegal p i s then raise i .illegalCommand s else go s

/-- A command with no bus primitive: one completion step (R21). -/
def single (p : Params) (i : Instr) (go : State → State) (s : State) : Host.Outcome State Fault Refusal :=
  atPlace s fun pt =>
    match pt with
    | .start => some (checked p i go s)
    | _ => none

/-- Going on after a primitive that answered `ok`: BusError if it failed (R100). -/
def orBusError (i : Instr) (ok : Bool) (go : State → State) (s : State) : State :=
  if ok then go s else raise i .busError s

/-! ## The registers as words -/

/-- The byte offset of each register (R23). -/
def Reg.offset : Reg → BitVec 8
  | .cmd => 0x00#8
  | .status => 0x04#8
  | .crc => 0x08#8
  | .devidLo => 0x0C#8
  | .devidHi => 0x10#8
  | .xfer => 0x14#8
  | .data => 0x18#8
  | .cfg => 0x1C#8
  | .result => 0x20#8
  | .brstat => 0x24#8
  | .buf k => BitVec.ofNat 8 (0x40 + 4 * k.val)

/-- The register at a byte offset; `none` is a misaligned or unmapped offset (R23, R52). -/
def regAt (offset : BitVec 8) : Option Reg :=
  match offset.toNat with
  | 0x00 => some .cmd
  | 0x04 => some .status
  | 0x08 => some .crc
  | 0x0C => some .devidLo
  | 0x10 => some .devidHi
  | 0x14 => some .xfer
  | 0x18 => some .data
  | 0x1C => some .cfg
  | 0x20 => some .result
  | 0x24 => some .brstat
  | 0x40 => some (.buf 0)
  | 0x44 => some (.buf 1)
  | 0x48 => some (.buf 2)
  | 0x4C => some (.buf 3)
  | _ => none

/-- XFER as the host reads it (R28). -/
def Xfer.word (x : Xfer) : Word := 0#11 ++ x.len ++ x.reg ++ 0#1 ++ x.addr

/-- XFER as a host write stores it (R28). -/
def Xfer.ofWord (v : Word) : Xfer := ⟨v.extractLsb' 0 7, v.extractLsb' 8 8, v.extractLsb' 16 5⟩

/-- CFG as the host reads it (R30). -/
def Cfg.word (c : Cfg) : Word := 0#21 ++ c.isel ++ 0#1 ++ c.gsel ++ 0#2 ++ c.speed

/-- CFG as a host write stores it (R30). -/
def Cfg.ofWord (v : Word) : Cfg := ⟨v.extractLsb' 0 2, v.extractLsb' 4 3, v.extractLsb' 8 3⟩

/-- BRSTAT as the host reads it (R32). -/
def Brstat.word (b : Brstat) : Word := 0#16 ++ b.st1 ++ b.st0

/-- BUFk: BUF[4k+j] in bits 8j+7 to 8j (R33, R57). -/
def bufWord (m : Memory) (k : Nat) : Word :=
  m.read (4 * k + 3) ++ m.read (4 * k + 2) ++ m.read (4 * k + 1) ++ m.read (4 * k)

/-- The current value of a register (R24 to R33, R56). -/
def regValue (s : State) : Reg → Word
  | .cmd => s.cmd
  | .status => s.status.word
  | .crc => s.acc.setWidth 32
  | .devidLo => s.devidLo
  | .devidHi => s.devidHi
  | .xfer => s.xfer.word
  | .data => s.data.setWidth 32
  | .cfg => s.cfg.word
  | .result => s.result
  | .brstat => s.brstat.word
  | .buf k => bufWord s.buf k.val

/-- The registers a running command may be updating (R55). -/
def changesWhileBusy : Reg → Bool
  | .cmd => false
  | .status => false
  | .crc => true
  | .devidLo => false
  | .devidHi => false
  | .xfer => false
  | .data => false
  | .cfg => false
  | .result => true
  | .brstat => true
  | .buf _ => true

end Sys2Proof.Machine
end

