-- ==== Sys2Proof/Machine/Checksum.lean ====
section
/-! DEFINITION. The checksum family (spec/40_checksum.md): the CRC-16 function and the commands NOP,
CRC_BYTE and CRC_BUF. -/

namespace Sys2Proof.Machine

/-- One of the 8 shift/xor steps of a byte (R85). -/
def crcShift (c : Half) : Half :=
  if c.getLsbD 0 then (c >>> 1) ^^^ Config.crcPoly else c >>> 1

/-- n shift/xor steps. -/
def crcShifts : Nat → Half → Half
  | 0, c => c
  | n + 1, c => crcShifts n (crcShift c)

/-- `crc16_byte` (R85): the byte enters at the low end, then 8 steps. -/
def crc16Byte (c : Half) (b : Byte) : Half := crcShifts 8 (c ^^^ b.setWidth 16)

/-- `crc16` (R86). -/
def crc16 : Half → List Byte → Half
  | s, [] => s
  | s, b :: rest => crc16 (crc16Byte s b) rest

/-- One bit of the bitwise form (R88). -/
def crcBit (c : Half) (d : Bool) : Half :=
  let f := c.getLsbD 0 ^^ d
  let c := c >>> 1
  if f then c ^^^ Config.crcPoly else c

/-- The bitwise form of R88: the 8 bits of the byte, least significant first. -/
def crc16Bitwise (c : Half) (b : Byte) : Half :=
  (List.range 8).foldl (fun c k => crcBit c (b.getLsbD k)) c

/-- The trailer of a frame whose checksum is c: the bitwise NOT of its low, then its high byte (R103). -/
def trailer (c : Half) : List Byte := [~~~(c.extractLsb' 0 8), ~~~(c.extractLsb' 8 8)]

/-- NOP (R90). -/
def execNop (s : State) : Host.Outcome State Fault Refusal :=
  single Config.params .nop finish s

/-- CRC_BYTE (R91). -/
def execCrcByte (s : State) : Host.Outcome State Fault Refusal :=
  single Config.params .crcByte (fun s => finish (s.setAcc (crc16Byte s.acc s.dataByte))) s

/-- CRC_BUF (R92). -/
def execCrcBuf (s : State) : Host.Outcome State Fault Refusal :=
  single Config.params .crcBuf (fun s => finish (s.setAcc (crc16 s.acc s.lenBytes))) s

end Sys2Proof.Machine
end

