-- ==== Sys2Proof/Machine/Bridge.lean ====
section
/-! DEFINITION. The bridge framer (spec/41_bridge.md): the write frame, the read frame and the completion
poll, and the commands BR_CONFIG, BR_WRITE and BR_READ. BRIDGE_WRITE (R104) and BRIDGE_READ (R108) are one
procedure over the bytes they send: they differ in those, in the expected wait, and in the read frame's
payload at the end. -/

namespace Sys2Proof.Machine

/-- What one frame sends and awaits. -/
structure Frame where
  /-- The byte lists folded and sent before the trailer, one `BusWrite` each, in order. -/
  chunks : List (List Byte)
  /-- The expected wait units E of the poll. -/
  expected : Nat
  /-- The payload bytes read back at the end: none in a write frame. -/
  payload : Option Nat
deriving DecidableEq, Repr

/-- The address byte of a frame: bits 7:1 are the 7-bit address, bit 0 is 0 (R102). -/
def addressByte (a7 : BitVec 7) : Byte := a7.setWidth 8 <<< 1

/-- The write frame of R104; with no payload its third `BusWrite` is not issued. -/
def writeFrame (p : Params) (speed : BitVec 2) (a7 : BitVec 7) (reg : Byte) (pay : List Byte) : Frame where
  chunks := [[p.opcWr, addressByte a7], [BitVec.ofNat 8 (pay.length + 1), reg]] ++
    (if pay.isEmpty then [] else [pay])
  expected := p.expectW speed pay.length
  payload := none

/-- The read frame of R108. -/
def readFrame (p : Params) (speed : BitVec 2) (a7 : BitVec 7) (reg : Byte) (n : Nat) : Frame where
  chunks := [[p.opcWrRd, addressByte a7, 0x01#8], [reg], [BitVec.ofNat 8 n]]
  expected := p.expectR speed n
  payload := some n

/-- What one engine step of a frame procedure comes to: a primitive was issued, the procedure returned
its bytes, or it raised a failure (R13). -/
inductive FrameStep where
  | issued (s : State)
  | returned (s : State) (d : List Byte)
  | raised (s : State) (e : Failure)
deriving DecidableEq, Repr

/-- The first line of both frames: `BusSelect(DEVID)` (R100). -/
def frameStart (s : State) : State := busSelect .selected s

/-- The `BusWrite` after the first k: the next bytes, folded into CRC.ACC first, with seed 0 for the
first ones (R101); after the last of them the trailer, which is not folded (R103). -/
def frameSend (f : Frame) (k : Nat) (s : State) : State :=
  match f.chunks[k]? with
  | some l =>
    busWrite l (.sent (k + 1)) (s.setAcc (crc16 (if k = 0 then Config.crcSeed else s.acc) l))
  | none => busWrite (trailer s.acc) .sentTrailer s

/-- The retry loop of the poll with `left` rounds to come: TimeoutError when there is none (R105). -/
def pollRetry (left : Nat) (s : State) : FrameStep :=
  match left with
  | 0 => .raised s .timeoutError
  | n + 1 => .issued (busReadBit (.sampledRetry n) s)

/-- The expected wait of the poll with `left` sleeps to come, then the retry loop (R105). -/
def pollExpected (p : Params) (left : Nat) (s : State) : FrameStep :=
  match left with
  | 0 => pollRetry p.retry s
  | n + 1 => .issued (busSleep (p.unitUs s.cfg.speed) (.sleptExpected n) s)

/-- STATUS_READ's `BusRead(2)` (R106). -/
def statusRead (s : State) : FrameStep := .issued (busRead 2 .gotStatus s)

/-- STATUS_CHECK (R107): `none` is success. -/
def statusCheck (p : Params) (b : Brstat) : Option Failure :=
  if b.st0 = 0x00#8 ∧ b.st1 = 0x00#8 then none
  else if b.st0.getLsbD p.stCrcBit then some .checksumError
  else some .busError

/-- A step that needs the primitive before it to have answered ok (R100). -/
def needOk (ok : Bool) (s : State) (go : FrameStep) : FrameStep :=
  if ok then go else .raised s .busError

/-- The end of a frame: a write frame returns, a read frame reads its payload (R104, R108). -/
def frameEnd (f : Frame) (s : State) : FrameStep :=
  match f.payload with
  | none => .returned s []
  | some n => .issued (busRead n .gotPayload s)

/-- The step after the status bytes were read: BRSTAT is written, then they are checked (R106, R107). -/
def frameStatus (p : Params) (f : Frame) (d : List Byte) (s : State) : FrameStep :=
  let t := s.setBrstat ⟨byteAt d 0, byteAt d 1⟩
  match statusCheck p t.brstat with
  | none => frameEnd f t
  | some e => .raised t e

/-- BUF[0..n-1] <- d (R59, R108). -/
def storePayload (n : Nat) (d : List Byte) (s : State) : State :=
  s.setBuf (s.buf.writeList 0 (d.take n))

/-- One engine step of BRIDGE_WRITE or BRIDGE_READ after its first (R104, R105, R108); `none` is a place
the frame does not have. -/
def frameStep (p : Params) (f : Frame) (pt : Point) (s : State) : Option FrameStep :=
  match pt with
  | .start => none
  | .selected ok => some (needOk ok s (.issued (frameSend f 0 s)))
  | .sent k ok => some (needOk ok s (.issued (frameSend f k s)))
  | .sentTrailer ok => some (needOk ok s (.issued (busReadBit .sampledFirst s)))
  | .sampledFirst none => some (.raised s .busError)
  | .sampledFirst (some false) => some (statusRead s)
  | .sampledFirst (some true) => some (pollExpected p f.expected s)
  | .sleptExpected left => some (pollExpected p left s)
  | .sampledRetry _ none => some (.raised s .busError)
  | .sampledRetry _ (some false) => some (statusRead s)
  | .sampledRetry left (some true) =>
    some (.issued (busSleep (p.unitUs s.cfg.speed) (.sleptRetry left) s))
  | .sleptRetry left => some (pollRetry left s)
  | .gotStatus none => some (.raised s .busError)
  | .gotStatus (some d) => some (frameStatus p f d s)
  | .gotPayload none => f.payload.map fun _ => .raised s .busError
  | .gotPayload (some d) => f.payload.map fun n => .returned (storePayload n d s) d

/-- A frame's step inside a command that says what a return and a failure come to (`try`, R13). -/
def FrameStep.into (onReturn : State → List Byte → State) (onRaise : State → Failure → State) :
    FrameStep → State
  | .issued t => t
  | .returned t d => onReturn t d
  | .raised t e => onRaise t e

/-- A command that is one frame: the argument checks, the frame `f` of the state, then `onReturn`; a
failure of the frame is the command's (R13). -/
def frameCommand (p : Params) (i : Instr) (f : State → Frame) (onReturn : State → List Byte → State)
    (s : State) : Host.Outcome State Fault Refusal :=
  atPlace s fun pt =>
    match pt with
    | .start => some (checked p i frameStart s)
    | pt => (frameStep p (f s) pt s).map (FrameStep.into onReturn fun t e => raise i e t)

/-- BR_CONFIG with parameters p (R109). -/
def brConfig (p : Params) (s : State) : Host.Outcome State Fault Refusal :=
  atPlace s fun pt =>
    match pt with
    | .start => some (checked p .brConfig (busSelect .selected) s)
    | .selected ok =>
      some (orBusError .brConfig ok (busWrite [p.opcCfg, p.speedByte s.cfg.speed] (.sent 1)) s)
    | .sent 1 ok => some (orBusError .brConfig ok finish s)
    | _ => none

/-- The frame BR_WRITE sends (R110). -/
def brWriteFrame (p : Params) (s : State) : Frame :=
  writeFrame p s.cfg.speed s.xfer.addr s.xfer.reg s.lenBytes

/-- BR_WRITE with parameters p (R110). -/
def brWrite (p : Params) (s : State) : Host.Outcome State Fault Refusal :=
  frameCommand p .brWrite (brWriteFrame p) (fun t _ => finish t) s

/-- The frame BR_READ sends (R111). -/
def brReadFrame (p : Params) (s : State) : Frame :=
  readFrame p s.cfg.speed s.xfer.addr s.xfer.reg s.len

/-- BR_READ with parameters p (R111). -/
def brRead (p : Params) (s : State) : Host.Outcome State Fault Refusal :=
  frameCommand p .brRead (brReadFrame p) (fun t _ => finish t) s

/-- BR_CONFIG (R109). -/
def execBrConfig (s : State) : Host.Outcome State Fault Refusal := brConfig Config.params s

/-- BR_WRITE (R110). -/
def execBrWrite (s : State) : Host.Outcome State Fault Refusal := brWrite Config.params s

/-- BR_READ (R111). -/
def execBrRead (s : State) : Host.Outcome State Fault Refusal := brRead Config.params s

end Sys2Proof.Machine
end

