-- ==== Sys2Proof/Machine/Illuminance.lean ====
section
/-! DEFINITION. The illuminance family (spec/43_illuminance.md): the scaler and the commands LX_INIT,
LX_READ and LX_DECODE. -/

namespace Sys2Proof.Machine

/-- The scale factor F(g, i) (R155); `none` is a selection outside a table (R156). -/
def lxFactor (p : Params) (g t : Nat) : Option Nat :=
  match p.gainLut[g]?, p.itLut[t]? with
  | some a, some b => some (Config.lxBase * a * b)
  | _, _ => none

/-- LX_CONV with scale factor F (R157). -/
def lxConv (raw : Half) (factor : Nat) : Nat := raw.toNat * factor / Config.lxScale

/-- The raw count from its two bytes in received order (R159). -/
def lxRaw (p : Params) (d : List Byte) : Half :=
  match p.lxOrder with
  | .le => halfOf (byteAt d 1) (byteAt d 0)
  | .be => halfOf (byteAt d 0) (byteAt d 1)

/-- RESULT <- LX_CONV(raw, GSEL, ISEL) and `finish`; IllegalCommand for a selection outside a table,
which the argument check has turned away before (R74, R162, R163). -/
def lxResult (p : Params) (i : Instr) (raw : Half) (s : State) : State :=
  match lxFactor p s.gainIndex s.timeIndex with
  | some f => finish (s.setResult (BitVec.ofNat 32 (lxConv raw f)))
  | none => raise i .illegalCommand s

/-- The frame LX_INIT sends (R158, R161). -/
def lxInitFrame (p : Params) (s : State) : Frame :=
  writeFrame p s.cfg.speed p.lxAddr p.lxRegCfg (p.lxCfgVal s.gainIndex s.timeIndex)

/-- LX_INIT with parameters p (R161). -/
def lxInit (p : Params) (s : State) : Host.Outcome State Fault Refusal :=
  frameCommand p .lxInit (lxInitFrame p) (fun t _ => finish t) s

/-- The frame LX_READ sends (R162). -/
def lxReadFrame (p : Params) (s : State) : Frame :=
  readFrame p s.cfg.speed p.lxAddr p.lxRegData 2

/-- LX_READ with parameters p (R162). -/
def lxRead (p : Params) (s : State) : Host.Outcome State Fault Refusal :=
  frameCommand p .lxRead (lxReadFrame p) (fun t d => lxResult p .lxRead (lxRaw p d) t) s

/-- LX_DECODE with parameters p (R163). -/
def lxDecode (p : Params) (s : State) : Host.Outcome State Fault Refusal :=
  single p .lxDecode (fun s => lxResult p .lxDecode s.data s) s

/-- LX_INIT (R161). -/
def execLxInit (s : State) : Host.Outcome State Fault Refusal := lxInit Config.params s

/-- LX_READ (R162). -/
def execLxRead (s : State) : Host.Outcome State Fault Refusal := lxRead Config.params s

/-- LX_DECODE (R163). -/
def execLxDecode (s : State) : Host.Outcome State Fault Refusal := lxDecode Config.params s

end Sys2Proof.Machine
end

