-- ==== Sys2Proof/Machine/Temperature.lean ====
section
/-! DEFINITION. The temperature family (spec/42_temperature.md): the direct-bus path (DT_START, DT_READ,
DT_DECODE) and the bridged path (BT_PROBE, BT_READ, BT_DECODE), whose converters share no logic. -/

namespace Sys2Proof.Machine

/-! ## The direct-bus converter -/

/-- The magnitude of a raw value: 0..32768 (R136). -/
def dtMag (raw : Half) : Nat :=
  if raw.getLsbD 15 then (~~~raw + 1#16).toNat else raw.toNat

/-- The integer part, scaled by 10 (R137). -/
def dtInt (mag : Nat) : Nat := mag / 16 * 10

/-- The fraction, with the addend for rounding only where the sign flag is clear (R138). -/
def dtFrac (neg : Bool) (mag : Nat) : Nat := (mag % 16 * 640 + (if neg then 0 else 512)) / 1024

/-- The value before the range check (R139). -/
def dtValue (raw : Half) : Int :=
  let neg := raw.getLsbD 15
  let v : Int := (dtInt (dtMag raw) + dtFrac neg (dtMag raw) : Nat)
  if neg then -v else v

/-- DT_CONV (R139): `none` is RangeError. -/
def dtConv (raw : Half) : Option Int :=
  if dtValue raw < Config.dtMin ∨ Config.dtMax < dtValue raw then none else some (dtValue raw)

/-- RESULT <- DT_CONV(raw) and `finish`, or RangeError (R133, R134, R139). -/
def dtResult (i : Instr) (raw : Half) (s : State) : State :=
  match dtConv raw with
  | some v => finish (s.setResult (BitVec.ofInt 32 v))
  | none => raise i .rangeError s

/-- The raw value of a scratchpad: bytes 0 and 1, little-endian (R135). -/
def dtRaw (d : List Byte) : Half := halfOf (byteAt d 1) (byteAt d 0)

/-- The bytes of the scratchpad (R131, R133). -/
def scratchpadSize : Nat := 9

/-- DT_READ after an ok read of d: BUF written, then the checksum, then the range (R59, R131, R133). -/
def dtReadDone (p : Params) (d : List Byte) (s : State) : State :=
  let t := storePayload scratchpadSize d s
  if p.crc8 d = 0x00#8 then dtResult .dtRead (dtRaw d) t else raise .dtRead .checksumError t

/-- DT_START with parameters p (R132). -/
def dtStart (p : Params) (s : State) : Host.Outcome State Fault Refusal :=
  atPlace s fun pt =>
    match pt with
    | .start => some (checked p .dtStart (busSelect .selected) s)
    | .selected ok => some (orBusError .dtStart ok (busWrite [p.dtCmdConvert] (.sent 1)) s)
    | .sent 1 ok => some (orBusError .dtStart ok finish s)
    | _ => none

/-- DT_READ with parameters p (R133). -/
def dtRead (p : Params) (s : State) : Host.Outcome State Fault Refusal :=
  atPlace s fun pt =>
    match pt with
    | .start => some (checked p .dtRead (busSelect .selected) s)
    | .selected ok => some (orBusError .dtRead ok (busWrite [p.dtCmdReadSp] (.sent 1)) s)
    | .sent 1 ok => some (orBusError .dtRead ok (busRead scratchpadSize .gotPayload) s)
    | .gotPayload none => some (raise .dtRead .busError s)
    | .gotPayload (some d) => some (dtReadDone p d s)
    | _ => none

/-- DT_START (R132). -/
def execDtStart (s : State) : Host.Outcome State Fault Refusal := dtStart Config.params s

/-- DT_READ (R133). -/
def execDtRead (s : State) : Host.Outcome State Fault Refusal := dtRead Config.params s

/-- DT_DECODE (R134). -/
def execDtDecode (s : State) : Host.Outcome State Fault Refusal :=
  single Config.params .dtDecode (fun s => dtResult .dtDecode s.data s) s

/-! ## The bridged converter -/

/-- BT_CONV (R147 to R149); no range check (R150). -/
def btConv (raw : Half) : Int :=
  let v : Int := ((raw.extractLsb' 0 12).toNat * 10 / 16 : Nat)
  if raw.getLsbD 12 then v - Config.btOffset else v

/-- A 16-bit big-endian register from its two bytes in received order (R142). -/
def btRaw (d : List Byte) : Half := halfOf (byteAt d 0) (byteAt d 1)

/-- RESULT <- BT_CONV(raw) and `finish` (R144, R146). -/
def btResult (raw : Half) (s : State) : State :=
  finish (s.setResult (BitVec.ofInt 32 (btConv raw)))

/-- The read frame of a 2-byte register of the bridged sensor (R141). -/
def btFrame (p : Params) (reg : Byte) (s : State) : Frame :=
  readFrame p s.cfg.speed p.btAddr reg 2

/-- The probe's negative verdict (R143). -/
def probeNo (s : State) : State := finishMismatch (s.setResult 0#32)

/-- The probe's verdict on the two registers (R143). -/
def probeVerdict (p : Params) (mfr dev : Half) (s : State) : State :=
  if mfr = p.btMfrId ∧ dev = p.btDevId then finish (s.setResult 1#32) else probeNo s

/-- BT_PROBE with parameters p (R143): the manufacturer's read, then the device's with the first one's
bytes held; a failure inside either is the negative verdict. -/
def btProbe (p : Params) (s : State) : Host.Outcome State Fault Refusal :=
  atPlace s fun pt =>
    match pt, s.seq.held with
    | .start, none => some (checked p .btProbe frameStart s)
    | .start, some _ => none
    | pt, none =>
      (frameStep p (btFrame p p.btRegMfr s) pt s).map
        (FrameStep.into (fun t d => frameStart (t.hold d)) fun t _ => probeNo t)
    | pt, some r1 =>
      (frameStep p (btFrame p p.btRegDev s) pt s).map
        (FrameStep.into (fun t d => probeVerdict p (btRaw r1) (btRaw d) t) fun t _ => probeNo t)

/-- BT_READ with parameters p (R144). -/
def btRead (p : Params) (s : State) : Host.Outcome State Fault Refusal :=
  frameCommand p .btRead (btFrame p p.btRegTa) (fun t d => btResult (btRaw d) t) s

/-- BT_PROBE (R143). -/
def execBtProbe (s : State) : Host.Outcome State Fault Refusal := btProbe Config.params s

/-- BT_READ (R144). -/
def execBtRead (s : State) : Host.Outcome State Fault Refusal := btRead Config.params s

/-- BT_DECODE (R146). -/
def execBtDecode (s : State) : Host.Outcome State Fault Refusal :=
  single Config.params .btDecode (fun s => btResult s.data s) s

end Sys2Proof.Machine
end

