-- ==== Sys2Proof/Machine/Dispatch.lean ====
section
/-! DEFINITION. One engine step of each command (spec/30_encoding.md R73): one arm a command. -/

namespace Sys2Proof.Machine

/-- One engine step (spec/10_state.md R21) of the running command, which is `i`. -/
def exec (i : Instr) (s : State) : Host.Outcome State Fault Refusal :=
  match i with
  | .nop => Sys2Proof.Machine.execNop s
  | .crcByte => Sys2Proof.Machine.execCrcByte s
  | .crcBuf => Sys2Proof.Machine.execCrcBuf s
  | .brConfig => Sys2Proof.Machine.execBrConfig s
  | .brWrite => Sys2Proof.Machine.execBrWrite s
  | .brRead => Sys2Proof.Machine.execBrRead s
  | .dtStart => Sys2Proof.Machine.execDtStart s
  | .dtRead => Sys2Proof.Machine.execDtRead s
  | .dtDecode => Sys2Proof.Machine.execDtDecode s
  | .btProbe => Sys2Proof.Machine.execBtProbe s
  | .btRead => Sys2Proof.Machine.execBtRead s
  | .btDecode => Sys2Proof.Machine.execBtDecode s
  | .lxInit => Sys2Proof.Machine.execLxInit s
  | .lxRead => Sys2Proof.Machine.execLxRead s
  | .lxDecode => Sys2Proof.Machine.execLxDecode s

end Sys2Proof.Machine
end

