-- ==== Sys2Proof/Machine/HostAccess.lean ====
section
/-! DEFINITION. The host's side (spec/20_memory.md R50 to R56): reads and writes of the register space,
the start of a command (spec/30_encoding.md R71), the host's own step, and the pseudo-instructions of a host
program (R79, R80). -/

namespace Sys2Proof.Machine

/-- Command start (R71): CMD <- v, BUSY 1, ERR and CODE 0, SEQ running v from its start. -/
def startCommand (v : Word) (s : State) : State :=
  ((s.setCmd v).setStatus s.status.started).setSeq (.run v ⟨.start, none⟩)

/-- A host write that is dropped sets WIGN (R54). -/
def dropWrite (s : State) : State := s.setStatus s.status.dropped

/-- A write to a register that a running command keeps the host from (R54). -/
def unlessBusy (go : State → State) (s : State) : State :=
  if s.status.busy then dropWrite s else go s

/-- A host write to a register (R24 to R33, R54). -/
def writeReg (r : Reg) (v : Word) (s : State) : State :=
  match r with
  | .cmd => unlessBusy (startCommand v) s
  | .status => s.setStatus (s.status.written v)
  | .crc => unlessBusy (fun s => s.setAcc (v.extractLsb' 0 16)) s
  | .devidLo => unlessBusy (fun s => s.setDevidLo v) s
  | .devidHi => unlessBusy (fun s => s.setDevidHi v) s
  | .xfer => unlessBusy (fun s => s.setXfer (Xfer.ofWord v)) s
  | .data => unlessBusy (fun s => s.setData (v.extractLsb' 0 16)) s
  | .cfg => unlessBusy (fun s => s.setCfg (Cfg.ofWord v)) s
  | .result => s
  | .brstat => s
  | .buf k => unlessBusy (fun s => s.setBuf (s.buf.writeList (4 * k.val) (bytesOfWord v))) s

/-- A host write at a byte offset; misaligned or unmapped, it has no effect (R52). -/
def hostWrite (offset : BitVec 8) (v : Word) (s : State) : State :=
  match regAt offset with
  | some r => writeReg r v s
  | none => s

/-- Whether the register's value is unspecified to a host read now (R55). -/
def readIsFree (r : Reg) (s : State) : Bool := s.status.busy && changesWhileBusy r

/-- What a host read at a byte offset returns: the register's value, a free value while busy where R55
says so, and 0 at a misaligned or unmapped offset (R52, R55, R56). -/
def readValue (offset : BitVec 8) (s : State) : Word :=
  match regAt offset with
  | some r => if readIsFree r s then Config.freeRead s.env.draws else regValue s r
  | none => 0x00000000#32

/-- A host read: no state of the engine changes (R55, R56); the model records it and counts the draw. -/
def hostRead (offset : BitVec 8) (s : State) : State :=
  s.setEnv { s.env with
    draws := s.env.draws + 1, reads := s.env.reads ++ [(offset, readValue offset s)] }

/-- The host's program goes on with `rest`. -/
def hostRest (rest : List HostOp) (s : State) : State := s.setEnv { s.env with host := rest }

/-- One step of the host: its next access (R20). WAIT is one read of STATUS, and stays until it has
returned BUSY = 0 (R80). With no access left the host does nothing. -/
def hostStep (s : State) : State :=
  match s.env.host with
  | [] => s
  | .write offset v :: rest => hostWrite offset v (hostRest rest s)
  | .read offset :: rest => hostRead offset (hostRest rest s)
  | .wait :: rest =>
    let t := hostRead Reg.status.offset s
    if (readValue Reg.status.offset s).getLsbD 0 then t else hostRest rest t

/-- Reset (R190, R191): a running command ends without its completion step. -/
def resetEngine (s : State) : State := State.afterReset s.env

/-- Where the register at an offset sits in the host's own address space (R50). -/
def hostAddress (p : Params) (offset : BitVec 8) : Nat := p.base + offset.toNat

/-! ## Host programs (R79, R80) -/

/-- `W <reg>, <value>`. -/
def progWrite (r : Reg) (v : Word) : List HostOp := [.write r.offset v]

/-- `R <reg>`. -/
def progRead (r : Reg) : List HostOp := [.read r.offset]

/-- `CMD <mnemonic>`, for the command word `w`. -/
def progCmd (w : Word) : List HostOp := progWrite .cmd w

/-- `WAIT`. -/
def progWait : List HostOp := [.wait]

/-- `RUN <mnemonic>`, for the command word `w`. -/
def progRun (w : Word) : List HostOp := progCmd w ++ progWait

/-- The word of a group of up to four bytes, byte j in bits 8j+7:8j, padded with 0x00 (R80). -/
def groupWord (l : List Byte) : Word :=
  l.getD 3 0#8 ++ l.getD 2 0#8 ++ l.getD 1 0#8 ++ l.getD 0 0#8

/-- `WBUF` from word k on, with at most `left` words to write: one `W BUFk` for each group of four. -/
def progWbufFrom : Nat → Nat → List Byte → List HostOp
  | 0, _, _ => []
  | _ + 1, _, [] => []
  | left + 1, k, l =>
    .write (BitVec.ofNat 8 (0x40 + 4 * k)) (groupWord l) :: progWbufFrom left (k + 1) (l.drop 4)

/-- `WBUF <b0>, <b1>, ...` (R80): BUF has four words. -/
def progWbuf (l : List Byte) : List HostOp := progWbufFrom 4 0 l

end Sys2Proof.Machine
end

