-- ==== Sys2Proof/Machine/Step.lean ====
section
/-! DEFINITION. One step of the machine (spec/10_state.md R20, R21; spec/20_memory.md R61): the next agent in
the one total order moves. The engine fetches no instruction: it runs the command word latched in SEQ when
the host wrote CMD (R35, R65). -/

namespace Sys2Proof.Machine

/-- One engine step (R21): of the latched command, or, where the latched word is none, its failure
completion (R71, R72, R75). While idle the engine does not move (R20). -/
def engineStep (s : State) : Host.Outcome State Fault Refusal :=
  match s.seq with
  | .idle => .next s
  | .run c _ =>
    match decodeWord c with
    | .ok i => exec i s
    | .error _ => .next (raiseIllegalWord s)

/-- One agent's move. -/
def takeTurn (t : Turn) (s : State) : Host.Outcome State Fault Refusal :=
  match t with
  | .host => .next (hostStep s)
  | .engine => engineStep s
  | .reset => .next (resetEngine s)

/-- Who moves where no turn is scripted: the engine while it runs, else the host. -/
def defaultTurn (s : State) : Turn := if s.seq.running then .engine else .host

/-- One step: the next scripted turn, or the default one. -/
def step (s : State) : Host.Outcome State Fault Refusal :=
  match s.env.turns with
  | [] => takeTurn (defaultTurn s) s
  | t :: rest => takeTurn t (s.setEnv { s.env with turns := rest })

/-- The state in which the very next step runs the command word: the host has just written it to CMD of
an idle engine (R71, R65), and no scripted turn comes before the engine's. -/
def State.withFetchWord (s : State) (nbits w : Nat) : State :=
  startCommand (tableWord nbits w) (s.setEnv { s.env with turns := [] })

end Sys2Proof.Machine
end

