-- ==== Sys2Proof/Safety.lean ====
section
/-! DEFINITION. The terms the statements use: the invariant of the machine, the places of each command's
pseudocode, and the bound on a command's steps (spec/70_reset_and_hazards.md R205). -/

namespace Sys2Proof.Machine

/-! ## The places a command can be at (R35) -/

/-- An answer of `BusRead(n)` has n bytes (R12). -/
def hasLength (n : Nat) (d : Option (List Byte)) : Prop := ∀ l, d = some l → l.length = n

/-- The places of a frame's pseudocode after its first primitive (R104, R105, R108). -/
def Frame.hasPlace (p : Params) (f : Frame) : Point → Prop
  | .start => False
  | .selected _ => True
  | .sent k _ => 1 ≤ k ∧ k ≤ f.chunks.length
  | .sentTrailer _ => True
  | .sampledFirst _ => True
  | .sleptExpected left => left < f.expected
  | .sampledRetry left _ => left < p.retry
  | .sleptRetry left => left < p.retry
  | .gotStatus d => hasLength 2 d
  | .gotPayload d => ∃ n, f.payload = some n ∧ hasLength n d

/-- The places of BR_CONFIG and DT_START after their first primitive (R109, R132). -/
def plainPlace : Point → Prop
  | .selected _ => True
  | .sent k _ => k = 1
  | _ => False

/-- The places of DT_READ after its first primitive (R133). -/
def scratchpadPlace : Point → Prop
  | .gotPayload d => hasLength scratchpadSize d
  | pt => plainPlace pt

/-- The frame a command is in at a position that holds `held`, where it sends frames (R110, R111, R143,
R144, R161, R162). -/
def frameOf (p : Params) (i : Instr) (s : State) (held : Option (List Byte)) : Option Frame :=
  match i with
  | .brWrite => some (brWriteFrame p s)
  | .brRead => some (brReadFrame p s)
  | .btProbe =>
    some (match held with | none => btFrame p p.btRegMfr s | some _ => btFrame p p.btRegDev s)
  | .btRead => some (btFrame p p.btRegTa s)
  | .lxInit => some (lxInitFrame p s)
  | .lxRead => some (lxReadFrame p s)
  | .nop | .crcByte | .crcBuf | .brConfig | .dtStart | .dtRead | .dtDecode | .btDecode | .lxDecode => none

/-- Only BT_PROBE holds bytes, the two of its first read (R143). -/
def heldLegal (i : Instr) (held : Option (List Byte)) : Prop :=
  ∀ l, held = some l → i = .btProbe ∧ l.length = 2

/-- A position after the start that the running command `i` can be at (R35). -/
def atLegalPlace (p : Params) (i : Instr) (s : State) (pos : Pos) : Prop :=
  heldLegal i pos.held ∧
    match frameOf p i s pos.held with
    | some f => f.hasPlace p pos.point
    | none =>
      match i with
      | .brConfig | .dtStart => plainPlace pos.point
      | .dtRead => scratchpadPlace pos.point
      | _ => False

/-! ## The invariant -/

/-- The invariant of the machine. -/
structure Inv (s : State) : Prop where
  /-- SEQ = RUN iff STATUS.BUSY = 1 (R35). -/
  busyIffRunning : s.status.busy = s.seq.running
  /-- BUF is in canonical form, inside its 16 bytes (R33). -/
  bufWf : s.buf.wf
  /-- CODE = 7 is never written (R171). -/
  codeLegal : s.status.code ≠ 7#3
  /-- ERR is 1 exactly for the codes of R171 that say so. -/
  errIffFailure : s.status.err = true ↔ s.status.code ≠ codeNone ∧ s.status.code ≠ codeMismatch
  /-- ERR and CODE are 0 while a command runs (R25, R37). -/
  clearWhileBusy : s.status.busy = true → s.status.err = false ∧ s.status.code = codeNone
  /-- RESULT lies in -2560..4294836 (R31). -/
  resultRange : -2560 ≤ s.result.toInt ∧ s.result.toInt ≤ 4294836
  /-- SEQ latches CMD (R35), and past its start a command has legal arguments (R74) and is at a place
  of its own pseudocode. -/
  latched : ∀ c pos, s.seq = .run c pos → c = s.cmd ∧
    (pos = ⟨.start, none⟩ ∨ ∃ i, decodeWord c = .ok i ∧ argsIllegal Config.params i s = false ∧
      atLegalPlace Config.params i s pos)
  /-- A bridge frame reads its payload only after two zero status bytes (R108, R113). -/
  zeroStatusBeforePayload : ∀ c d held, s.seq = .run c ⟨.gotPayload d, held⟩ →
    decodeWord c ≠ .ok .dtRead → s.brstat = ⟨0x00#8, 0x00#8⟩

/-! ## Runs -/

/-- SEQ runs the word of command `i`, at a place, holding `held`. -/
def State.runsAt (s : State) (i : Instr) (pt : Point) (held : Option (List Byte)) : Prop :=
  s.seq = .run (encode i) ⟨pt, held⟩

/-- A bus answer ok. -/
def BusAnswer.yes : BusAnswer := ⟨true, false, []⟩

/-- A bus answer ok with a bit. -/
def BusAnswer.sample (b : Bool) : BusAnswer := ⟨true, b, []⟩

/-- A bus answer ok with bytes. -/
def BusAnswer.got (l : List Byte) : BusAnswer := ⟨true, false, l⟩

/-- The environment after the bus gave `n` answers and `events` happened. -/
def Env.after (e : Env) (rest : List BusAnswer) (n : Nat) (events : List BusEvent) : Env :=
  { e with answers := rest, draws := e.draws + n, events := e.events ++ events }

/-- k steps of the machine, stopping at the first that has no next state (as `Host.Core.run` does). -/
def steps : Nat → State → Host.Outcome State Fault Refusal
  | 0, s => .next s
  | k + 1, s =>
    match step s with
    | .next t => steps k t
    | .fault r => .fault r
    | .refused r => .refused r

/-! ## The bound of R205 -/

/-- The engine steps a frame still needs after its status bytes were read: the payload's read, if it has
one, and the step that ends the frame. -/
def Frame.endSteps (f : Frame) : Nat :=
  match f.payload with
  | none => 1
  | some _ => 2

/-- The most engine steps from a place of a frame to the step that ends it, that step included (R205). -/
def Frame.stepsLeft (p : Params) (f : Frame) : Point → Nat
  | .start => f.chunks.length + f.expected + 2 * p.retry + f.endSteps + 4
  | .selected _ => f.chunks.length + f.expected + 2 * p.retry + f.endSteps + 3
  | .sent k _ => (f.chunks.length - k) + f.expected + 2 * p.retry + f.endSteps + 3
  | .sentTrailer _ => f.expected + 2 * p.retry + f.endSteps + 2
  | .sampledFirst _ => f.expected + 2 * p.retry + f.endSteps + 1
  | .sleptExpected left => left + 2 * p.retry + f.endSteps
  | .sampledRetry left _ => 2 * left + f.endSteps + 1
  | .sleptRetry left => 2 * left + f.endSteps
  | .gotStatus _ => f.endSteps
  | .gotPayload _ => 1

/-- The most engine steps from a place of a command with no frame to its completion (R205). -/
def plainStepsLeft (i : Instr) (pt : Point) : Nat :=
  match i, pt with
  | .brConfig, .start | .dtStart, .start => 3
  | .brConfig, .selected _ | .dtStart, .selected _ => 2
  | .dtRead, .start => 4
  | .dtRead, .selected _ => 3
  | .dtRead, .sent _ _ => 2
  | _, _ => 1

/-- The most engine steps from a position of command `i` to its completion; while BT_PROBE is in its
first frame, those of its second come on top (R143, R205). -/
def stepsLeft (p : Params) (i : Instr) (s : State) (pos : Pos) : Nat :=
  match frameOf p i s pos.held with
  | none => plainStepsLeft i pos.point
  | some f =>
    f.stepsLeft p pos.point +
      (if i = .btProbe ∧ pos.held = none then
        (btFrame p p.btRegDev s).stepsLeft p (.selected true) else 0)

/-- The bound of R205 on the engine steps of a whole command: its primitives, and one step more. -/
def stepBound (p : Params) (i : Instr) (s : State) : Nat :=
  let write n := 1 + 4 + (1 + p.retry) + (p.expectW s.cfg.speed n + p.retry) + 1
  let read n := 1 + 4 + (1 + p.retry) + (p.expectR s.cfg.speed n + p.retry) + 2
  match i with
  | .nop | .crcByte | .crcBuf | .dtDecode | .btDecode | .lxDecode => 1
  | .brConfig | .dtStart => 1 + 1 + 1
  | .dtRead => 1 + 1 + 1 + 1
  | .brWrite => write s.len + 1
  | .brRead => read s.len + 1
  | .btProbe => read 2 + read 2 + 1
  | .btRead => read 2 + 1
  | .lxInit => write (p.lxCfgVal s.gainIndex s.timeIndex).length + 1
  | .lxRead => read 2 + 1

end Sys2Proof.Machine
end

