-- ==== Sys2Proof/Certificates/Slice0/Obligations.lean ====
section
/-! DEFINITION. The statements about the model, from the numbered rules of spec/. A meaning is one engine step
(R21), so a command's meaning is stated at each place of its pseudocode, and, for a command with bus
primitives, over its whole run as well. -/

open Sys2Proof Sys2Proof.Machine

/-! ## Encoding (spec/30_encoding.md) -/

/-- R73: a few words of the opcode table, written out, and two that are no command. -/
def Obligations.DecoderReadsOpcodeTableWords : Prop :=
  decodeTableWord 32 0b00000000000000000000000000000010 = some .crcBuf ∧
  decodeTableWord 32 0b00000000000000000000000000010001 = some .brWrite ∧
  decodeTableWord 32 0b00000000000000000000000000100001 = some .dtRead ∧
  decodeTableWord 32 0b00000000000000000000000000110000 = some .btProbe ∧
  decodeTableWord 32 0b00000000000000000000000001000010 = some .lxDecode ∧
  decodeTableWord 32 0b00000000000000000000000000000011 = none ∧
  decodeTableWord 32 0b00000000000000000000000100010010 = none

/-- R70, R73: the decoder inverts the encoder, and the only word of a command is its encoding. -/
def Obligations.DecodeInvertsEncode : Prop :=
  (∀ (i : Instr) (rest : List Byte), decodeBytes (encodeBytes i ++ rest) = .ok (i, rest)) ∧
  (∀ (b0 b1 b2 b3 : Byte) (rest : List Byte) (i : Instr),
    decodeBytes (b0 :: b1 :: b2 :: b3 :: rest) = .ok (i, rest) → [b0, b1, b2, b3] = encodeBytes i) ∧
  ∀ (w : Word) (i : Instr), decodeWord w = .ok i ↔ w = encode i

/-- R71, R72, R75: the reserved bits are checked before the opcode, and a word decodes exactly if its
reserved bits are 0 and its opcode is in none of the ranges R75 lists. -/
def Obligations.OnlyWellFormedWordsDecode : Prop :=
  ∀ w : Word,
    (256 ≤ w.toNat → decodeWord w = .error (.reservedBits w)) ∧
    (w.toNat < 256 → CommandWord.opcodeDefined w = false →
      decodeWord w = .error (.undefinedOpcode (w.setWidth 8))) ∧
    (w.toNat < 256 → CommandWord.opcodeDefined w = true → ∃ i, decodeWord w = .ok i)

/-- R72, R75: a word with reserved bits set, or with an undefined opcode, completes with IllegalCommand
in one step, and nothing but STATUS and SEQ changes. -/
def Obligations.IllegalWordsCompleteWithIllegalCommand : Prop :=
  ∀ (s : State) (c : Word) (p : Pos), s.seq = .run c p → s.env.turns = [] →
    (256 ≤ c.toNat ∨ CommandWord.opcodeDefined c = false) →
    step s = .next { s with status := ⟨false, true, 6#3, s.status.wign⟩, seq := .idle }

/-- R74: the argument checks, condition by condition; a command whose arguments are illegal completes with
IllegalCommand in its first step, with no bus primitive and RESULT kept. -/
def Obligations.ArgumentChecks : Prop :=
  ∀ s : State,
    let illegal : Instr → Prop := fun i => argsIllegal Config.params i s = true
    let speed3 := s.cfg.speed = 3#2
    let long := 16 < s.xfer.len.toNat
    let outside := Config.params.gainLut.length ≤ s.cfg.gsel.toNat ∨
      Config.params.itLut.length ≤ s.cfg.isel.toNat
    (illegal .crcBuf ↔ long) ∧
    (illegal .brWrite ↔ long ∨ speed3) ∧
    (illegal .brRead ↔ s.xfer.len.toNat = 0 ∨ long ∨ speed3) ∧
    (∀ i ∈ [Instr.brConfig, .btProbe, .btRead], illegal i ↔ speed3) ∧
    (∀ i ∈ [Instr.lxInit, .lxRead], illegal i ↔ speed3 ∨ outside) ∧
    (illegal .lxDecode ↔ outside) ∧
    (∀ i ∈ [Instr.nop, .crcByte, .dtStart, .dtRead, .dtDecode, .btDecode], ¬illegal i) ∧
    ∀ (i : Instr) (c : Word), s.seq = .run c ⟨.start, none⟩ → illegal i →
      exec i s = .next { s with status := ⟨false, true, 6#3, s.status.wign⟩, seq := .idle }

/-- R27, R71, R74, R100: with legal arguments the first step of a bus command is `BusSelect` of the eight
bytes of DEVID, byte 0 the low byte of DEVID_LO, and nothing else changes. -/
def Obligations.BusCommandsStartBySelectingTheDevice : Prop :=
  ∀ (i : Instr) (s : State) (c : Word),
    i ∈ [Instr.brConfig, .brWrite, .brRead, .dtStart, .dtRead, .btProbe, .btRead, .lxInit, .lxRead] →
    s.seq = .run c ⟨.start, none⟩ → argsIllegal Config.params i s = false →
    exec i s = .next { s with
      seq := .run c ⟨.selected s.answer.ok, none⟩
      env := s.env.after s.env.answers.tail 1 [.select
        [s.devidLo.extractLsb' 0 8, s.devidLo.extractLsb' 8 8, s.devidLo.extractLsb' 16 8,
          s.devidLo.extractLsb' 24 8, s.devidHi.extractLsb' 0 8, s.devidHi.extractLsb' 8 8,
          s.devidHi.extractLsb' 16 8, s.devidHi.extractLsb' 24 8] s.answer.ok] }

/-! ## The step and its turns (spec/10_state.md R20, R21; spec/20_memory.md R61) -/

/-- R35, R65, R71: when the latched word decodes to a command, the engine's step is that command's
meaning, and `withFetchWord` makes the very next step run it (notes/assumptions/5.md, 11.md). -/
def Obligations.StepRunsTheDecodedCommand : Prop :=
  (∀ (s : State) (c : Word) (p : Pos) (i : Instr), s.seq = .run c p → decodeWord c = .ok i →
    (s.env.turns = [] → step s = exec i s) ∧
    (∀ rest, s.env.turns = .engine :: rest →
      step s = exec i { s with env := { s.env with turns := rest } })) ∧
  ∀ (s : State) (i : Instr),
    step (s.withFetchWord 32 (encode i).toNat) = exec i (s.withFetchWord 32 (encode i).toNat) ∧
    (s.withFetchWord 32 (encode i).toNat).runsAt i .start none

/-- R20, R61: a scripted turn is taken by its agent; without one the host moves while no command runs; an
idle engine's turn changes nothing. (Who moves where no turn is scripted is the model's choice,
notes/assumptions/5.md.) -/
def Obligations.TurnsAreTakenByTheirAgents : Prop :=
  (∀ (s : State) (rest : List Turn), s.env.turns = .host :: rest →
    step s = .next (hostStep { s with env := { s.env with turns := rest } })) ∧
  (∀ s : State, s.env.turns = [] → s.seq = .idle → step s = .next (hostStep s)) ∧
  (∀ (s : State) (rest : List Turn), s.env.turns = .engine :: rest → s.seq = .idle →
    step s = .next { s with env := { s.env with turns := rest } })

/-- R190, R191: the platform's reset ends whatever runs, at any time, with no completion step and no bus
primitive: every register is at its reset value and only the environment goes on (that the environment
keeps its data is the model's reading of R193, notes/assumptions/12.md). -/
def Obligations.ResetEndsTheRunningCommand : Prop :=
  ∀ (s : State) (rest : List Turn), s.env.turns = .reset :: rest →
    step s = .next { State.reset with env := { s.env with turns := rest } }

/-- R191: the reset values, as the host reads them. -/
def Obligations.ResetValues : Prop :=
  (∀ r ∈ [Reg.cmd, .status, .crc, .devidLo, .devidHi, .xfer, .data, .result, .brstat, .buf 0, .buf 1,
    .buf 2, .buf 3], readValue r.offset State.reset = 0#32) ∧
  State.reset.cfg = ⟨0#2, Config.params.gselRst, Config.params.iselRst⟩ ∧
  (readValue Reg.cfg.offset State.reset).toNat =
    16 * Config.params.gselRst.toNat + 256 * Config.params.iselRst.toNat ∧
  (∀ a, State.reset.buf.read a = 0x00#8) ∧ State.reset.seq = .idle

/-- R64, R20: the engine issues no bus primitive while idle, whoever moves. -/
def Obligations.IdleEngineIssuesNoPrimitive : Prop :=
  ∀ s t : State, s.seq = .idle → step s = .next t → t.env.events = s.env.events

/-- R21: one engine step is one bus primitive, with STATUS and RESULT as they were and the command still
running, or it is the completion, which issues none: also after a primitive that failed, whose answer acts
in the next step (the model's reading of R21, notes/assumptions/4.md). -/
def Obligations.EngineStepIsOnePrimitiveOrCompletion : Prop :=
  ∀ (i : Instr) (s t : State), exec i s = .next t →
    (t.seq = .idle ∧ t.status.busy = false ∧ t.env = s.env) ∨
    (∃ c p q, s.seq = .run c p ∧ t.seq = .run c q ∧ t.status = s.status ∧ t.result = s.result ∧
      ((∃ e, t.env = s.env.after s.env.answers.tail 1 [e]) ∨
        ∃ us, t.env = s.env.after s.env.answers 0 [.sleep us]))

/-! ## The host's accesses (spec/20_memory.md) -/

/-- R71, R54: a write to CMD starts the command in one step when idle, and starts nothing when busy. -/
def Obligations.CmdWriteStartsACommand : Prop :=
  ∀ (s : State) (v : Word),
    (s.status.busy = false → hostWrite 0x00#8 v s =
      { s with cmd := v, status := ⟨true, false, 0#3, s.status.wign⟩, seq := .run v ⟨.start, none⟩ }) ∧
    (s.status.busy = true → (hostWrite 0x00#8 v s).seq = s.seq ∧ (hostWrite 0x00#8 v s).cmd = s.cmd)

/-- R52: at a misaligned or unlisted offset a write has no effect, a read returns 0, and no state of the
engine changes. -/
def Obligations.UnmappedAccessesHaveNoEffect : Prop :=
  ∀ (s : State) (off : BitVec 8) (v : Word),
    (off.toNat % 4 ≠ 0 ∨ off.toNat ∉ [0x00, 0x04, 0x08, 0x0C, 0x10, 0x14, 0x18, 0x1C, 0x20, 0x24, 0x40,
      0x44, 0x48, 0x4C]) →
    hostWrite off v s = s ∧ readValue off s = 0x00000000#32 ∧ { hostRead off s with env := s.env } = s

/-- R54: while busy, a write to an operand register or to CMD is dropped and sets WIGN; STATUS is written
at any time, only its bit 8 acting; RESULT, BRSTAT and unmapped offsets ignore writes, busy or not. -/
def Obligations.WritesWhileBusyAreDropped : Prop :=
  ∀ (s : State) (off : BitVec 8) (v : Word),
    (s.status.busy = true →
      off.toNat ∈ [0x00, 0x08, 0x0C, 0x10, 0x14, 0x18, 0x1C, 0x40, 0x44, 0x48, 0x4C] →
      hostWrite off v s = { s with status := { s.status with wign := true } }) ∧
    (off.toNat = 0x04 → hostWrite off v s =
      { s with status := { s.status with wign := s.status.wign && !v.getLsbD 8 } }) ∧
    (off.toNat ∉ [0x00, 0x04, 0x08, 0x0C, 0x10, 0x14, 0x18, 0x1C, 0x40, 0x44, 0x48, 0x4C] →
      hostWrite off v s = s)

/-- R25, R55: while busy, the operand registers, CMD and STATUS read as they are, said as a number made of
their fields at their places, bit 0 of STATUS 1 among them, and CRC, RESULT, BRSTAT and BUF read as a free
value, whichever it is; no read has a side effect on the engine. The form of the free
value, a draw numbered by the environment, is the model's (notes/assumptions/2.md). -/
def Obligations.ReadsWhileBusy : Prop :=
  ∀ s : State, s.status.busy = true →
    (∀ r ∈ [Reg.status, .cmd, .devidLo, .devidHi, .xfer, .data, .cfg],
      readValue r.offset s = regValue s r) ∧
    (readValue 0x04#8 s).toNat = 1 + 2 * s.status.err.toNat + 4 * s.status.code.toNat +
      256 * s.status.wign.toNat ∧
    readValue 0x00#8 s = s.cmd ∧ readValue 0x0C#8 s = s.devidLo ∧ readValue 0x10#8 s = s.devidHi ∧
    (readValue 0x14#8 s).toNat = s.xfer.addr.toNat + 256 * s.xfer.reg.toNat + 65536 * s.xfer.len.toNat ∧
    (readValue 0x18#8 s).toNat = s.data.toNat ∧
    (readValue 0x1C#8 s).toNat = s.cfg.speed.toNat + 16 * s.cfg.gsel.toNat + 256 * s.cfg.isel.toNat ∧
    (∀ r ∈ [Reg.crc, .result, .brstat, .buf 0, .buf 1, .buf 2, .buf 3],
      readValue r.offset s = Config.freeRead s.env.draws) ∧
    ∀ off, { hostRead off s with env := s.env } = s

/-- R25 to R33, R56, R57: while idle, what a read of each register returns, as a number made of its fields
at their places, reserved bits 0; a read has no side effect on the engine. -/
def Obligations.ReadsWhileIdleReturnTheRegisters : Prop :=
  ∀ s : State, s.status.busy = false →
    readValue 0x00#8 s = s.cmd ∧
    (readValue 0x04#8 s).toNat = 2 * s.status.err.toNat + 4 * s.status.code.toNat +
      256 * s.status.wign.toNat ∧
    (readValue 0x08#8 s).toNat = s.acc.toNat ∧
    readValue 0x0C#8 s = s.devidLo ∧ readValue 0x10#8 s = s.devidHi ∧
    (readValue 0x14#8 s).toNat = s.xfer.addr.toNat + 256 * s.xfer.reg.toNat + 65536 * s.xfer.len.toNat ∧
    (readValue 0x18#8 s).toNat = s.data.toNat ∧
    (readValue 0x1C#8 s).toNat = s.cfg.speed.toNat + 16 * s.cfg.gsel.toNat + 256 * s.cfg.isel.toNat ∧
    readValue 0x20#8 s = s.result ∧
    (readValue 0x24#8 s).toNat = s.brstat.st0.toNat + 256 * s.brstat.st1.toNat ∧
    (∀ k : Fin 4, (readValue (Reg.buf k).offset s).toNat = (s.buf.read (4 * k)).toNat +
      256 * (s.buf.read (4 * k + 1)).toNat + 65536 * (s.buf.read (4 * k + 2)).toNat +
      16777216 * (s.buf.read (4 * k + 3)).toNat) ∧
    ∀ off, { hostRead off s with env := s.env } = s

/-- R26 to R30, R33, R56: while idle, a write to a register and a read back give the value written less
the reserved bits; no other register and no other byte of BUF changes. -/
def Obligations.WritesWhileIdleStoreTheDefinedBits : Prop :=
  ∀ (s : State) (v : Word), s.status.busy = false →
    (∀ rm ∈ [(Reg.crc, 0x0000FFFF#32), (.devidLo, 0xFFFFFFFF#32), (.devidHi, 0xFFFFFFFF#32),
        (.xfer, 0x001FFF7F#32), (.data, 0x0000FFFF#32), (.cfg, 0x00000773#32)],
      readValue rm.1.offset (hostWrite rm.1.offset v s) = v &&& rm.2) ∧
    hostWrite 0x08#8 v s = { s with acc := v.setWidth 16 } ∧
    hostWrite 0x0C#8 v s = { s with devidLo := v } ∧
    hostWrite 0x10#8 v s = { s with devidHi := v } ∧
    hostWrite 0x14#8 v s = { s with xfer := (hostWrite 0x14#8 v s).xfer } ∧
    hostWrite 0x18#8 v s = { s with data := v.setWidth 16 } ∧
    hostWrite 0x1C#8 v s = { s with cfg := (hostWrite 0x1C#8 v s).cfg } ∧
    (s.buf.wf → ∀ k : Fin 4,
      hostWrite (Reg.buf k).offset v s = { s with buf := (hostWrite (Reg.buf k).offset v s).buf } ∧
      readValue (Reg.buf k).offset (hostWrite (Reg.buf k).offset v s) = v ∧
      ∀ a, a < 4 * k.val ∨ 4 * k.val + 4 ≤ a →
        (hostWrite (Reg.buf k).offset v s).buf.read a = s.buf.read a)

/-- R80: the accesses of `WBUF` over 1 to 16 bytes are one write a group of four, and, done while idle,
they leave BUF with those bytes, the last group padded with 0x00, and every later group as it was. -/
def Obligations.WbufFillsTheBuffer : Prop :=
  ∀ (l : List Byte) (s : State), 1 ≤ l.length → l.length ≤ 16 → s.status.busy = false → s.buf.wf →
    s.seq = .idle → s.env.turns = [] → s.env.host = progWbuf l →
    (progWbuf l).length = (l.length + 3) / 4 ∧
    ∃ t : State, steps ((l.length + 3) / 4) s = .next t ∧ t.env.host = [] ∧
      t = { s with buf := t.buf, env := t.env } ∧
      ∀ a, t.buf.read a = if a < (l.length + 3) / 4 * 4 then l.getD a 0x00#8 else s.buf.read a

/-! ## Frames: what commands leave alone (spec/30_encoding.md R76) -/

/-- R54, R65, R76: no command changes an operand register, CMD, WIGN or what the host still has to do. -/
def Obligations.CommandsKeepTheirOperands : Prop :=
  ∀ (i : Instr) (s t : State), exec i s = .next t →
    t.cmd = s.cmd ∧ t.devidLo = s.devidLo ∧ t.devidHi = s.devidHi ∧ t.xfer = s.xfer ∧ t.data = s.data ∧
    t.cfg = s.cfg ∧ t.status.wign = s.status.wign ∧ t.env.host = s.env.host ∧
    t.env.turns = s.env.turns ∧ t.env.reads = s.env.reads

/-- R34, R76: CRC.ACC, BRSTAT, BUF and RESULT each change only under the commands R76 lists for it. -/
def Obligations.OnlyTheListedCommandsWrite : Prop :=
  ∀ (i : Instr) (s t : State), exec i s = .next t →
    (i ∈ [Instr.nop, .brConfig, .dtStart, .dtRead, .dtDecode, .btDecode, .lxDecode] → t.acc = s.acc) ∧
    (i ∈ [Instr.nop, .crcByte, .crcBuf, .brConfig, .dtStart, .dtRead, .dtDecode, .btDecode, .lxDecode] →
      t.brstat = s.brstat) ∧
    (i ∈ [Instr.nop, .crcByte, .crcBuf, .brConfig, .brWrite, .dtStart, .dtDecode, .btDecode, .lxInit,
      .lxDecode] → ∀ a, t.buf.read a = s.buf.read a) ∧
    (i ∈ [Instr.nop, .crcByte, .crcBuf, .brConfig, .brWrite, .brRead, .dtStart, .lxInit] →
      t.result = s.result)

/-- R34: a reading command stores from BUF[0] on, the number of bytes its rule names, and leaves every
other byte of BUF as it was; only the step that has an ok payload stores at all (R59). -/
def Obligations.ReadingCommandsStoreOnlyTheirBytes : Prop :=
  ∀ (i : Instr) (s t : State) (n : Nat), exec i s = .next t → s.buf.wf →
    (i, n) ∈ [(Instr.brRead, s.xfer.len.toNat), (.dtRead, 9), (.btProbe, 2), (.btRead, 2), (.lxRead, 2)] →
    (∀ a, n ≤ a → t.buf.read a = s.buf.read a) ∧
    ((∀ c d held, s.seq ≠ .run c ⟨.gotPayload (some d), held⟩) → t.buf = s.buf)

/-! ## Completion (spec/60_exceptions.md) -/

/-- R171, R172: no command completes with another code than R172 derives for it, nor with another ERR than
the code goes with; WIGN is kept. -/
def Obligations.CodesOfEachCommand : Prop :=
  ∀ (i : Instr) (s t : State), exec i s = .next t → t.seq = .idle →
    t.status.busy = false ∧ t.status.wign = s.status.wign ∧
    ((t.status.err = false ∧ t.status.code = 0#3) ∨
      (i = .btProbe ∧ t.status.err = false ∧ t.status.code = 5#3) ∨
      (t.status.err = true ∧ t.status.code ∈
        match i with
        | .nop | .crcByte | .crcBuf | .btDecode | .lxDecode | .btProbe => [6#3]
        | .brConfig | .dtStart => [1#3, 6#3]
        | .brWrite | .brRead | .btRead | .lxInit | .lxRead => [1#3, 2#3, 3#3, 6#3]
        | .dtRead => [1#3, 2#3, 4#3, 6#3]
        | .dtDecode => [4#3, 6#3]))

/-- R174: a failure completion of a command leaves RESULT 0 if the command produces results and the code
is not IllegalCommand, and RESULT as it was otherwise; it issues no bus primitive. -/
def Obligations.FailureCompletionAndResult : Prop :=
  ∀ (i : Instr) (s t : State), exec i s = .next t → t.seq = .idle → t.status.err = true →
    t.env = s.env ∧
    t.result =
      if i ∈ [Instr.dtRead, .dtDecode, .btProbe, .btRead, .btDecode, .lxRead, .lxDecode] ∧
        t.status.code ≠ 6#3 then 0#32 else s.result

/-! ## The checksum family (spec/40_checksum.md) -/

/-- R90: NOP clears ERR and CODE and changes nothing else. -/
def Obligations.NopCompletes : Prop :=
  encode .nop = 0x00000000#32 ∧ ∀ (s : State) (c : Word), s.seq = .run c ⟨.start, none⟩ →
    exec .nop s = .next { s with status := ⟨false, false, 0#3, s.status.wign⟩, seq := .idle }

/-- R88, R91: CRC_BYTE folds DATA[7:0] into ACC, said with the bitwise form of the byte step, which R88
derives (the form itself: notes/assumptions/7.md). -/
def Obligations.CrcByteCompletes : Prop :=
  encode .crcByte = 0x00000001#32 ∧ ∀ (s : State) (c : Word), s.seq = .run c ⟨.start, none⟩ →
    exec .crcByte s = .next { s with
      acc := crc16Bitwise s.acc (s.data.setWidth 8)
      status := ⟨false, false, 0#3, s.status.wign⟩
      seq := .idle }

/-- R88, R92: CRC_BUF folds the first LEN bytes of BUF into ACC, one byte after the other, said with the
bitwise form R88 derives (notes/assumptions/7.md); with LEN beyond 16 it is IllegalCommand and ACC is
kept. -/
def Obligations.CrcBufCompletes : Prop :=
  encode .crcBuf = 0x00000002#32 ∧ ∀ (s : State) (c : Word), s.seq = .run c ⟨.start, none⟩ →
    (s.xfer.len.toNat ≤ 16 → exec .crcBuf s = .next { s with
      acc := (List.range s.xfer.len.toNat).foldl (fun a k => crc16Bitwise a (s.buf.read k)) s.acc
      status := ⟨false, false, 0#3, s.status.wign⟩
      seq := .idle }) ∧
    (16 < s.xfer.len.toNat →
      exec .crcBuf s = .next { s with status := ⟨false, true, 6#3, s.status.wign⟩, seq := .idle })

/-- R87: the checksum of a message folds over its parts. -/
def Obligations.ChecksumFoldsOverParts : Prop :=
  ∀ (seed : Half) (a b : List Byte), crc16 seed (a ++ b) = crc16 (crc16 seed a) b

/-- R88: the byte step is the bitwise form: "the results are identical", the spec's own derivation. -/
def Obligations.ByteStepIsBitwise : Prop :=
  ∀ (c : Half) (b : Byte), crc16Byte c b = crc16Bitwise c b

/-- R89: a frame followed by its trailer has the checksum 0xB001, whatever the frame: "a constant
independent of f", the spec's own derivation, which rests on the step form of notes/assumptions/7.md. -/
def Obligations.TrailerResidueIsConstant : Prop :=
  ∀ f : List Byte, crc16 0x0000#16 (f ++ trailer (crc16 0x0000#16 f)) = 0xB001#16

/-! ## The bridge framer (spec/41_bridge.md) -/

/-- R102: in both frames the address byte has the 7-bit address in bits 7:1 and 0 in bit 0. -/
def Obligations.AddressByteOfBothFrames : Prop :=
  ∀ (p : Params) (speed : BitVec 2) (a7 : BitVec 7) (reg : Byte) (pay : List Byte) (n : Nat),
    (writeFrame p speed a7 reg pay).chunks[0]? = some [p.opcWr, a7 ++ 0#1] ∧
    (readFrame p speed a7 reg n).chunks[0]? = some [p.opcWrRd, a7 ++ 0#1, 0x01#8]

/-- R109: BR_CONFIG step by step, and its run. -/
def Obligations.BrConfigCompletes : Prop :=
  (∀ (s : State) (c : Word), s.seq = .run c ⟨.selected true, none⟩ →
    exec .brConfig s = .next { s with
      seq := .run c ⟨.sent 1 s.answer.ok, none⟩
      env := s.env.after s.env.answers.tail 1
        [.write [Config.params.opcCfg, Config.params.speedByte s.cfg.speed] s.answer.ok] }) ∧
  (∀ (s : State) (c : Word), s.seq = .run c ⟨.sent 1 true, none⟩ →
    exec .brConfig s =
      .next { s with status := ⟨false, false, 0#3, s.status.wign⟩, seq := .idle }) ∧
  ∀ (s : State) (rest : List BusAnswer), s.runsAt .brConfig .start none → s.env.turns = [] →
    s.cfg.speed ≠ 3#2 → s.env.answers = .yes :: .yes :: rest →
    steps 3 s = .next { s with
      status := ⟨false, false, 0#3, s.status.wign⟩
      seq := .idle
      env := s.env.after rest 2 [.select s.deviceId true,
        .write [Config.params.opcCfg, Config.params.speedByte s.cfg.speed] true] }

/-- R101, R103, R104, R108: in every frame each `BusWrite` before the trailer sends the next bytes, folded
into ACC first whatever it answers, the first ones with seed 0; the trailer is the NOT of ACC's low, then
high byte and is not folded. -/
def Obligations.FramesSendWhatTheyFold : Prop :=
  ∀ (i : Instr) (s : State) (c : Word) (held : Option (List Byte)) (f : Frame),
    frameOf Config.params i s held = some f →
    (∀ l, s.seq = .run c ⟨.selected true, held⟩ → f.chunks[0]? = some l →
      exec i s = .next { s with
        acc := crc16 0x0000#16 l
        seq := .run c ⟨.sent 1 s.answer.ok, held⟩
        env := s.env.after s.env.answers.tail 1 [.write l s.answer.ok] }) ∧
    (∀ k l, 1 ≤ k → s.seq = .run c ⟨.sent k true, held⟩ → f.chunks[k]? = some l →
      exec i s = .next { s with
        acc := crc16 s.acc l
        seq := .run c ⟨.sent (k + 1) s.answer.ok, held⟩
        env := s.env.after s.env.answers.tail 1 [.write l s.answer.ok] }) ∧
    (s.seq = .run c ⟨.sent f.chunks.length true, held⟩ →
      exec i s = .next { s with
        seq := .run c ⟨.sentTrailer s.answer.ok, held⟩
        env := s.env.after s.env.answers.tail 1
          [.write [~~~(s.acc.extractLsb' 0 8), ~~~(s.acc.extractLsb' 8 8)] s.answer.ok] })

/-- R105, R106: the completion poll in every frame, step by step: sample, the expected wait, the retry loop
with its 100 rounds, and the read of the status bytes as soon as a sample is 0. (That P_RETRY is 100, so that
99 rounds are left after the first, is taken from R6 as notes/assumptions/6.md says.) -/
def Obligations.CompletionPollStepByStep : Prop :=
  ∀ (i : Instr) (s : State) (c : Word) (held : Option (List Byte)) (f : Frame),
    let at_ : Point → Prop := fun pt => s.seq = .run c ⟨pt, held⟩
    let slept : Point → State := fun pt => { s with
      seq := .run c ⟨pt, held⟩
      env := s.env.after s.env.answers 0 [.sleep (Config.params.unitUs s.cfg.speed)] }
    let sampled : Point → State := fun pt => { s with
      seq := .run c ⟨pt, held⟩
      env := s.env.after s.env.answers.tail 1 [.readBit s.bitAnswer] }
    frameOf Config.params i s held = some f →
    (at_ (.sentTrailer true) → exec i s = .next (sampled (.sampledFirst s.bitAnswer))) ∧
    (∀ left, at_ (.sampledFirst (some false)) ∨ at_ (.sampledRetry left (some false)) →
      exec i s = .next { s with
        seq := .run c ⟨.gotStatus (s.readAnswer 2), held⟩
        env := s.env.after s.env.answers.tail 1 [.read 2 (s.readAnswer 2)] }) ∧
    (at_ (.sampledFirst (some true)) → exec i s = .next (match f.expected with
      | 0 => sampled (.sampledRetry 99 s.bitAnswer)
      | n + 1 => slept (.sleptExpected n))) ∧
    (∀ n, at_ (.sleptExpected (n + 1)) → exec i s = .next (slept (.sleptExpected n))) ∧
    (at_ (.sleptExpected 0) → exec i s = .next (sampled (.sampledRetry 99 s.bitAnswer))) ∧
    (∀ left, at_ (.sampledRetry left (some true)) → exec i s = .next (slept (.sleptRetry left))) ∧
    (∀ left, at_ (.sleptRetry (left + 1)) →
      exec i s = .next (sampled (.sampledRetry left s.bitAnswer))) ∧
    (at_ (.sleptRetry 0) → i ≠ .btProbe → exec i s = .next { s with
      status := ⟨false, true, 3#3, s.status.wign⟩
      seq := .idle
      result := if resultProducing i then 0#32 else s.result })

/-- R100: in every bus command but the probe, the step after a primitive that answered ok = false is the
completion with BusError: nothing but STATUS, SEQ and the RESULT of a result-producing command changes.
(That it is the step after is the model's reading of R21, notes/assumptions/4.md.) -/
def Obligations.FailedPrimitiveRaisesBusError : Prop :=
  ∀ (i : Instr) (s : State) (c : Word) (pt : Point), s.seq = .run c ⟨pt, none⟩ →
    ((i ∈ [Instr.brConfig, .dtStart, .dtRead] ∧
        (pt = .selected false ∨ pt = .sent 1 false ∨ (i = .dtRead ∧ pt = .gotPayload none))) ∨
      (i ∈ [Instr.brWrite, .brRead, .btRead, .lxInit, .lxRead] ∧
        (pt = .selected false ∨ (∃ k, pt = .sent k false) ∨ pt = .sentTrailer false ∨
          pt = .sampledFirst none ∨ (∃ left, pt = .sampledRetry left none) ∨ pt = .gotStatus none ∨
          (i ∉ [Instr.brWrite, .lxInit] ∧ pt = .gotPayload none)))) →
    exec i s = .next { s with
      status := ⟨false, true, 1#3, s.status.wign⟩
      seq := .idle
      result := if i ∈ [Instr.dtRead, .btRead, .lxRead] then 0#32 else s.result }

/-- R106, R107: the status bytes are kept in BRSTAT and decide: two zero bytes let a read frame read its
payload, in either frame of BT_PROBE as in the others; any other pair ends the command, with ChecksumError if bit P_ST_CRC_BIT of byte 0 is set and
BusError if not. (Two zero bytes end a write frame: BrWriteCompletes, LxInitCompletes.) -/
def Obligations.StatusBytesDecide : Prop :=
  ∀ (i : Instr) (s : State) (c : Word) (a b : Byte) (held : Option (List Byte)),
    s.seq = .run c ⟨.gotStatus (some [a, b]), held⟩ →
    (i ∈ [Instr.brWrite, .brRead, .btRead, .lxInit, .lxRead] → ¬(a = 0x00#8 ∧ b = 0x00#8) →
      exec i s = .next { s with
        brstat := ⟨a, b⟩
        status := ⟨false, true, if a.getLsbD Config.params.stCrcBit then 2#3 else 1#3, s.status.wign⟩
        seq := .idle
        result := if resultProducing i then 0#32 else s.result }) ∧
    (∀ n, (i, n) ∈ [(Instr.brRead, s.xfer.len.toNat), (.btProbe, 2), (.btRead, 2), (.lxRead, 2)] →
      a = 0x00#8 → b = 0x00#8 →
      exec i s = .next { s with
        brstat := ⟨0x00#8, 0x00#8⟩
        seq := .run c ⟨.gotPayload (s.readAnswer n), held⟩
        env := s.env.after s.env.answers.tail 1 [.read n (s.readAnswer n)] })

/-- R104, R110: BR_WRITE's last step, and its whole run when the bridge is not busy: one select, the
header, the payload if there is one, the trailer, one sample and the status bytes. -/
def Obligations.BrWriteCompletes : Prop :=
  (∀ (s : State) (c : Word), s.seq = .run c ⟨.gotStatus (some [0x00#8, 0x00#8]), none⟩ →
    exec .brWrite s = .next { s with
      brstat := ⟨0x00#8, 0x00#8⟩
      status := ⟨false, false, 0#3, s.status.wign⟩
      seq := .idle }) ∧
  ∀ (s : State) (rest : List BusAnswer),
    let n := s.xfer.len.toNat
    let pay := (List.range n).map s.buf.read
    let bytes := [Config.params.opcWr, s.xfer.addr ++ 0#1, BitVec.ofNat 8 (n + 1), s.xfer.reg] ++ pay
    let sum := crc16 0x0000#16 bytes
    let writes := if n = 0 then 3 else 4
    s.runsAt .brWrite .start none → s.env.turns = [] → n ≤ 16 → s.cfg.speed ≠ 3#2 →
    s.env.answers = List.replicate (1 + writes) .yes ++ [.sample false, .got [0x00#8, 0x00#8]] ++ rest →
    steps (writes + 4) s = .next { s with
      acc := sum
      brstat := ⟨0x00#8, 0x00#8⟩
      status := ⟨false, false, 0#3, s.status.wign⟩
      seq := .idle
      env := s.env.after rest (writes + 3)
        ([.select s.deviceId true, .write [Config.params.opcWr, s.xfer.addr ++ 0#1] true,
          .write [BitVec.ofNat 8 (n + 1), s.xfer.reg] true] ++
          (if n = 0 then [] else [.write pay true]) ++
          [.write (trailer sum) true, .readBit (some false), .read 2 (some [0x00#8, 0x00#8])]) }

/-- R108, R111: BR_READ's last step, and its whole run when the bridge is not busy. -/
def Obligations.BrReadCompletes : Prop :=
  (∀ (s : State) (c : Word) (d : List Byte), s.seq = .run c ⟨.gotPayload (some d), none⟩ →
    d.length = s.xfer.len.toNat →
    exec .brRead s = .next { s with
      buf := s.buf.writeList 0 d
      status := ⟨false, false, 0#3, s.status.wign⟩
      seq := .idle }) ∧
  ∀ (s : State) (rest : List BusAnswer) (d : List Byte),
    let n := s.xfer.len.toNat
    let sum := crc16 0x0000#16
      [Config.params.opcWrRd, s.xfer.addr ++ 0#1, 0x01#8, s.xfer.reg, BitVec.ofNat 8 n]
    s.runsAt .brRead .start none → s.env.turns = [] → 1 ≤ n → n ≤ 16 → s.cfg.speed ≠ 3#2 →
    d.length = n →
    s.env.answers = [.yes, .yes, .yes, .yes, .yes, .sample false, .got [0x00#8, 0x00#8], .got d] ++ rest →
    steps 9 s = .next { s with
      acc := sum
      brstat := ⟨0x00#8, 0x00#8⟩
      buf := s.buf.writeList 0 d
      status := ⟨false, false, 0#3, s.status.wign⟩
      seq := .idle
      env := s.env.after rest 8
        [.select s.deviceId true, .write [Config.params.opcWrRd, s.xfer.addr ++ 0#1, 0x01#8] true,
          .write [s.xfer.reg] true, .write [BitVec.ofNat 8 n] true, .write (trailer sum) true,
          .readBit (some false), .read 2 (some [0x00#8, 0x00#8]), .read n (some d)] }

/-- R105, R112: a BR_WRITE with a payload whose busy bit is sampled 1 exactly k times (1 to P_RETRY) before
the first 0 still succeeds: k + 1 samples and E + k - 1 sleeps of one unit, in the poll's order (the counts
are the spec's own derivation, R112), where no scripted turn comes in between (notes/assumptions/5.md). -/
def Obligations.BusyBridgeIsAwaited : Prop :=
  ∀ (s : State) (rest : List BusAnswer) (k : Nat),
    let n := s.xfer.len.toNat
    let pay := (List.range n).map s.buf.read
    let bytes := [Config.params.opcWr, s.xfer.addr ++ 0#1, BitVec.ofNat 8 (n + 1), s.xfer.reg] ++ pay
    let sum := crc16 0x0000#16 bytes
    let wait := Config.params.expectW s.cfg.speed n
    let unit := BusEvent.sleep (Config.params.unitUs s.cfg.speed)
    s.runsAt .brWrite .start none → s.env.turns = [] → 1 ≤ n → n ≤ 16 → s.cfg.speed ≠ 3#2 →
    1 ≤ k → k ≤ Config.params.retry →
    s.env.answers = List.replicate 5 .yes ++ List.replicate k (.sample true) ++
      [.sample false, .got [0x00#8, 0x00#8]] ++ rest →
    steps (wait + 2 * k + 7) s = .next { s with
      acc := sum
      brstat := ⟨0x00#8, 0x00#8⟩
      status := ⟨false, false, 0#3, s.status.wign⟩
      seq := .idle
      env := s.env.after rest (k + 7)
        ([.select s.deviceId true, .write [Config.params.opcWr, s.xfer.addr ++ 0#1] true,
          .write [BitVec.ofNat 8 (n + 1), s.xfer.reg] true, .write pay true,
          .write (trailer sum) true, .readBit (some true)] ++ List.replicate wait unit ++
          (List.replicate (k - 1) [.readBit (some true), unit]).flatten ++
          [.readBit (some false), .read 2 (some [0x00#8, 0x00#8])]) }

/-- R105: a BR_READ whose busy bit never clears within the budget, 1 + P_RETRY samples of 1, ends with
TimeoutError after E + P_RETRY sleeps, with no status read: BRSTAT and BUF are as they were. (That P_RETRY
is 100 is taken from R6 as notes/assumptions/6.md says; no scripted turn comes in between,
notes/assumptions/5.md.) -/
def Obligations.BusyBridgeTimesOut : Prop :=
  ∀ (s : State) (rest : List BusAnswer),
    let n := s.xfer.len.toNat
    let sum := crc16 0x0000#16
      [Config.params.opcWrRd, s.xfer.addr ++ 0#1, 0x01#8, s.xfer.reg, BitVec.ofNat 8 n]
    let wait := Config.params.expectR s.cfg.speed n
    let unit := BusEvent.sleep (Config.params.unitUs s.cfg.speed)
    s.runsAt .brRead .start none → s.env.turns = [] → 1 ≤ n → n ≤ 16 → s.cfg.speed ≠ 3#2 →
    s.env.answers = List.replicate 5 .yes ++ List.replicate 101 (.sample true) ++ rest →
    steps (wait + 207) s = .next { s with
      acc := sum
      status := ⟨false, true, 3#3, s.status.wign⟩
      seq := .idle
      env := s.env.after rest 106
        ([.select s.deviceId true, .write [Config.params.opcWrRd, s.xfer.addr ++ 0#1, 0x01#8] true,
          .write [s.xfer.reg] true, .write [BitVec.ofNat 8 n] true, .write (trailer sum) true,
          .readBit (some true)] ++ List.replicate wait unit ++
          (List.replicate 100 [.readBit (some true), unit]).flatten) }

/-- R113: BR_WRITE, BR_READ, BT_READ, LX_INIT and LX_READ complete without failure, and BT_PROBE with code 0,
only with BRSTAT at two zero bytes ("A frame never reports success without having read two status bytes equal
to [0x00, 0x00]", the spec's own derivation). -/
def Obligations.SuccessNeedsZeroStatus : Prop :=
  ∀ (i : Instr) (s t : State), Inv s → s.seq.running = true → decodeWord s.cmd = .ok i →
    exec i s = .next t → t.seq = .idle →
    (i ∈ [Instr.brWrite, .brRead, .btRead, .lxInit, .lxRead] → t.status.err = false →
      t.brstat = ⟨0x00#8, 0x00#8⟩) ∧
    (i = .btProbe → t.status.code = 0#3 → t.brstat = ⟨0x00#8, 0x00#8⟩)

/-! ## The temperature family (spec/42_temperature.md) -/

/-- R135, R142, R159: which received byte is the more significant one in each raw value. -/
def Obligations.ByteOrdersOfRawValues : Prop :=
  ∀ (a b : Byte) (rest : List Byte) (p : Params),
    dtRaw (a :: b :: rest) = b ++ a ∧ btRaw (a :: b :: rest) = a ++ b ∧
    (p.lxOrder = .le → lxRaw p (a :: b :: rest) = b ++ a) ∧
    (p.lxOrder = .be → lxRaw p (a :: b :: rest) = a ++ b)

/-- R136 to R139: the direct converter, said of the two's-complement number: the magnitude is the absolute
value, the fraction is rounded up only where the number is not negative, and a value outside
-550..1250 is rejected; before the check it lies in -20480..20489 (the spec's own derivation, R139). -/
def Obligations.DirectConverter : Prop :=
  ∀ raw : Half,
    dtMag raw = raw.toInt.natAbs ∧ dtMag raw ≤ 32768 ∧
    (0 ≤ raw.toInt → dtValue raw = raw.toInt / 16 * 10 + (raw.toInt % 16 * 640 + 512) / 1024) ∧
    (raw.toInt < 0 → dtValue raw = -(-raw.toInt / 16 * 10 + -raw.toInt % 16 * 640 / 1024)) ∧
    -20480 ≤ dtValue raw ∧ dtValue raw ≤ 20489 ∧
    (dtConv raw = none ↔ dtValue raw < -550 ∨ 1250 < dtValue raw) ∧
    ∀ v, dtConv raw = some v → v = dtValue raw

/-- R132: DT_START step by step, and its run. -/
def Obligations.DtStartCompletes : Prop :=
  (∀ (s : State) (c : Word), s.seq = .run c ⟨.selected true, none⟩ →
    exec .dtStart s = .next { s with
      seq := .run c ⟨.sent 1 s.answer.ok, none⟩
      env := s.env.after s.env.answers.tail 1 [.write [Config.params.dtCmdConvert] s.answer.ok] }) ∧
  (∀ (s : State) (c : Word), s.seq = .run c ⟨.sent 1 true, none⟩ →
    exec .dtStart s =
      .next { s with status := ⟨false, false, 0#3, s.status.wign⟩, seq := .idle }) ∧
  ∀ (s : State) (rest : List BusAnswer), s.runsAt .dtStart .start none → s.env.turns = [] →
    s.env.answers = .yes :: .yes :: rest →
    steps 3 s = .next { s with
      status := ⟨false, false, 0#3, s.status.wign⟩
      seq := .idle
      env := s.env.after rest 2
        [.select s.deviceId true, .write [Config.params.dtCmdConvert] true] }

/-- R131, R133, R175: DT_READ's last step: the nine bytes are stored whatever they are; a checksum that is
not 0 is ChecksumError, else a value out of range is RangeError, both with RESULT 0; else RESULT is the
value. And its run up to that step: select, the command byte, the nine bytes. -/
def Obligations.DtReadCompletes : Prop :=
  (∀ (s : State) (c : Word) (d : List Byte), s.seq = .run c ⟨.gotPayload (some d), none⟩ →
    d.length = 9 →
    let raw : Half := d.getD 1 0#8 ++ d.getD 0 0#8
    let intact := Config.params.crc8 d = 0x00#8
    let inRange := -550 ≤ dtValue raw ∧ dtValue raw ≤ 1250
    exec .dtRead s = .next { s with
      buf := s.buf.writeList 0 d
      result := if intact ∧ inRange then BitVec.ofInt 32 (dtValue raw) else 0#32
      status := if ¬intact then ⟨false, true, 2#3, s.status.wign⟩
        else if ¬inRange then ⟨false, true, 4#3, s.status.wign⟩
        else ⟨false, false, 0#3, s.status.wign⟩
      seq := .idle } ∧
    (inRange → (BitVec.ofInt 32 (dtValue raw)).toInt = dtValue raw)) ∧
  ∀ (s : State) (rest : List BusAnswer) (d : List Byte), s.runsAt .dtRead .start none →
    s.env.turns = [] → d.length = 9 → s.env.answers = .yes :: .yes :: .got d :: rest →
    steps 3 s = .next { s with
      seq := .run (encode .dtRead) ⟨.gotPayload (some d), none⟩
      env := s.env.after rest 3 [.select s.deviceId true,
        .write [Config.params.dtCmdReadSp] true, .read 9 (some d)] }

/-- R134: DT_DECODE of DATA: the value in range, or RangeError with RESULT 0. -/
def Obligations.DtDecodeCompletes : Prop :=
  encode .dtDecode = 0x00000022#32 ∧ ∀ (s : State) (c : Word), s.seq = .run c ⟨.start, none⟩ →
    (-550 ≤ dtValue s.data → dtValue s.data ≤ 1250 →
      exec .dtDecode s = .next { s with
        result := BitVec.ofInt 32 (dtValue s.data)
        status := ⟨false, false, 0#3, s.status.wign⟩
        seq := .idle }) ∧
    (dtValue s.data < -550 ∨ 1250 < dtValue s.data →
      exec .dtDecode s = .next { s with
        result := 0#32
        status := ⟨false, true, 4#3, s.status.wign⟩
        seq := .idle })

/-- R147 to R150: the bridged converter is the floor of 10/16 of the low 13 bits read as two's complement
(the spec's own derivation, R149: "Equivalently, with x = ..."), in -2560..2559, and every value it computes
is returned. -/
def Obligations.BridgedConverter : Prop :=
  ∀ raw : Half, btConv raw = (10 * (raw.setWidth 13).toInt) / 16 ∧ -2560 ≤ btConv raw ∧ btConv raw ≤ 2559

/-- R146: BT_DECODE of DATA: a tenfold sixteenth of the low 12 bits, less 2560 where bit 12 is set. -/
def Obligations.BtDecodeCompletes : Prop :=
  encode .btDecode = 0x00000032#32 ∧ ∀ (s : State) (c : Word), s.seq = .run c ⟨.start, none⟩ →
    exec .btDecode s = .next { s with
      result := BitVec.ofInt 32 ((s.data.toNat % 4096 * 10 / 16 : Nat) -
        (if s.data.getLsbD 12 then 2560 else 0))
      status := ⟨false, false, 0#3, s.status.wign⟩
      seq := .idle }

/-- R142, R144: BT_READ's last step, and its whole run when the bridge is not busy. -/
def Obligations.BtReadCompletes : Prop :=
  (∀ (s : State) (c : Word) (a b : Byte), s.seq = .run c ⟨.gotPayload (some [a, b]), none⟩ →
    exec .btRead s = .next { s with
      buf := s.buf.writeList 0 [a, b]
      result := BitVec.ofInt 32 (btConv (a ++ b))
      status := ⟨false, false, 0#3, s.status.wign⟩
      seq := .idle }) ∧
  ∀ (s : State) (rest : List BusAnswer) (a b : Byte),
    let sum := crc16 0x0000#16
      [Config.params.opcWrRd, Config.params.btAddr ++ 0#1, 0x01#8, Config.params.btRegTa, 0x02#8]
    s.runsAt .btRead .start none → s.env.turns = [] → s.cfg.speed ≠ 3#2 →
    s.env.answers =
      [.yes, .yes, .yes, .yes, .yes, .sample false, .got [0x00#8, 0x00#8], .got [a, b]] ++ rest →
    steps 9 s = .next { s with
      acc := sum
      brstat := ⟨0x00#8, 0x00#8⟩
      buf := s.buf.writeList 0 [a, b]
      result := BitVec.ofInt 32 (btConv (a ++ b))
      status := ⟨false, false, 0#3, s.status.wign⟩
      seq := .idle
      env := s.env.after rest 8
        [.select s.deviceId true,
          .write [Config.params.opcWrRd, Config.params.btAddr ++ 0#1, 0x01#8] true,
          .write [Config.params.btRegTa] true, .write [0x02#8] true, .write (trailer sum) true,
          .readBit (some false), .read 2 (some [0x00#8, 0x00#8]), .read 2 (some [a, b])] }

/-- R143: BT_PROBE's ends. After the second payload the verdict is RESULT 1 with code 0 if both registers
match, and RESULT 0 with IdentityMismatch, ERR 0, if not; the first payload starts the second frame
whatever its value; a failure inside either frame is the negative verdict, never an error. -/
def Obligations.BtProbeCompletes : Prop :=
  ∀ (s : State) (c : Word),
    (∀ m1 m0 d1 d0 : Byte, s.seq = .run c ⟨.gotPayload (some [d1, d0]), some [m1, m0]⟩ →
      exec .btProbe s = .next { s with
        buf := s.buf.writeList 0 [d1, d0]
        result := if m1 ++ m0 = Config.params.btMfrId ∧ d1 ++ d0 = Config.params.btDevId
          then 1#32 else 0#32
        status := ⟨false, false,
          if m1 ++ m0 = Config.params.btMfrId ∧ d1 ++ d0 = Config.params.btDevId
          then 0#3 else 5#3, s.status.wign⟩
        seq := .idle }) ∧
    (∀ m1 m0 : Byte, s.seq = .run c ⟨.gotPayload (some [m1, m0]), none⟩ →
      exec .btProbe s = .next { s with
        buf := s.buf.writeList 0 [m1, m0]
        seq := .run c ⟨.selected s.answer.ok, some [m1, m0]⟩
        env := s.env.after s.env.answers.tail 1 [.select s.deviceId s.answer.ok] }) ∧
    (∀ (pt : Point) (held : Option (List Byte)), s.seq = .run c ⟨pt, held⟩ →
      (pt = .selected false ∨ (∃ k, pt = .sent k false) ∨ pt = .sentTrailer false ∨
        pt = .sampledFirst none ∨ (∃ left, pt = .sampledRetry left none) ∨ pt = .sleptRetry 0 ∨
        pt = .gotStatus none ∨ pt = .gotPayload none) →
      exec .btProbe s = .next { s with
        result := 0#32
        status := ⟨false, false, 5#3, s.status.wign⟩
        seq := .idle }) ∧
    (∀ (a b : Byte) (held : Option (List Byte)), s.seq = .run c ⟨.gotStatus (some [a, b]), held⟩ →
      ¬(a = 0x00#8 ∧ b = 0x00#8) →
      exec .btProbe s = .next { s with
        brstat := ⟨a, b⟩
        result := 0#32
        status := ⟨false, false, 5#3, s.status.wign⟩
        seq := .idle })

/-- R143: the run of a BT_PROBE that matches, when the bridge is not busy: two read frames, the
manufacturer's first, seventeen steps; ACC is left at the second frame's checksum. -/
def Obligations.BtProbeMatches : Prop :=
  ∀ (s : State) (rest : List BusAnswer),
    let head := [Config.params.opcWrRd, Config.params.btAddr ++ 0#1, 0x01#8]
    let mfr := [Config.params.btMfrId.extractLsb' 8 8, Config.params.btMfrId.extractLsb' 0 8]
    let dev := [Config.params.btDevId.extractLsb' 8 8, Config.params.btDevId.extractLsb' 0 8]
    let sum := fun reg => crc16 0x0000#16 (head ++ [reg, 0x02#8])
    let answers := fun d => [BusAnswer.yes, .yes, .yes, .yes, .yes, .sample false,
      .got [0x00#8, 0x00#8], .got d]
    let events := fun reg d => [BusEvent.select s.deviceId true, .write head true, .write [reg] true,
      .write [0x02#8] true, .write (trailer (sum reg)) true, .readBit (some false),
      .read 2 (some [0x00#8, 0x00#8]), .read 2 (some d)]
    s.runsAt .btProbe .start none → s.env.turns = [] → s.cfg.speed ≠ 3#2 → s.buf.wf →
    s.env.answers = answers mfr ++ answers dev ++ rest →
    ∃ t : State, steps 17 s = .next t ∧ t.result = 1#32 ∧
      t.status = ⟨false, false, 0#3, s.status.wign⟩ ∧ t.seq = .idle ∧
      t.acc = sum Config.params.btRegDev ∧ t.brstat = ⟨0x00#8, 0x00#8⟩ ∧
      t.buf.read 0 = Config.params.btDevId.extractLsb' 8 8 ∧
      t.buf.read 1 = Config.params.btDevId.extractLsb' 0 8 ∧
      t.env = s.env.after rest 16
        (events Config.params.btRegMfr mfr ++ events Config.params.btRegDev dev)

/-! ## The illuminance family (spec/43_illuminance.md) -/

/-- R7, R155, R157: the factor of a valid selection is 36 times its two table entries, positive and at most
65520, the product is below 2^32, and the result is the largest n with n x 1000 at most the product, within
0..4294836 and at most 4293853, so RESULT holds it exactly (the bounds are the spec's own derivation, R157);
the reset selection has the factor 576. -/
def Obligations.IlluminanceScaler : Prop :=
  (∀ (g t a b : Nat) (raw : Half), Config.params.gainLut[g]? = some a →
    Config.params.itLut[t]? = some b →
    let f := 36 * a * b
    lxFactor Config.params g t = some f ∧ 0 < f ∧ f ≤ 65520 ∧ raw.toNat * f < 2 ^ 32 ∧
    lxConv raw f = raw.toNat * f / 1000 ∧
    lxConv raw f * 1000 ≤ raw.toNat * f ∧ raw.toNat * f < (lxConv raw f + 1) * 1000 ∧
    lxConv raw f ≤ 4294836 ∧ lxConv raw f ≤ 4293853 ∧
    (BitVec.ofNat 32 (lxConv raw f)).toInt = lxConv raw f) ∧
  lxFactor Config.params State.reset.gainIndex State.reset.timeIndex = some 576

/-- R163: LX_DECODE of DATA with a valid selection, and IllegalCommand with RESULT kept without one. -/
def Obligations.LxDecodeCompletes : Prop :=
  encode .lxDecode = 0x00000042#32 ∧ ∀ (s : State) (c : Word), s.seq = .run c ⟨.start, none⟩ →
    exec .lxDecode s = .next (
      match Config.params.gainLut[s.cfg.gsel.toNat]?, Config.params.itLut[s.cfg.isel.toNat]? with
      | some a, some b => { s with
          result := BitVec.ofNat 32 (s.data.toNat * (36 * a * b) / 1000)
          status := ⟨false, false, 0#3, s.status.wign⟩
          seq := .idle }
      | _, _ => { s with status := ⟨false, true, 6#3, s.status.wign⟩, seq := .idle })

/-- R159, R162: LX_READ's last step with a valid selection, and its whole run when the bridge is not
busy. -/
def Obligations.LxReadCompletes : Prop :=
  (∀ (s : State) (c : Word) (x y : Byte) (a b : Nat),
    s.seq = .run c ⟨.gotPayload (some [x, y]), none⟩ →
    Config.params.gainLut[s.cfg.gsel.toNat]? = some a →
    Config.params.itLut[s.cfg.isel.toNat]? = some b →
    let raw : Half := match Config.params.lxOrder with | .le => y ++ x | .be => x ++ y
    exec .lxRead s = .next { s with
      buf := s.buf.writeList 0 [x, y]
      result := BitVec.ofNat 32 (raw.toNat * (36 * a * b) / 1000)
      status := ⟨false, false, 0#3, s.status.wign⟩
      seq := .idle }) ∧
  ∀ (s : State) (rest : List BusAnswer) (x y : Byte) (a b : Nat),
    let sum := crc16 0x0000#16
      [Config.params.opcWrRd, Config.params.lxAddr ++ 0#1, 0x01#8, Config.params.lxRegData, 0x02#8]
    let raw : Half := match Config.params.lxOrder with | .le => y ++ x | .be => x ++ y
    s.runsAt .lxRead .start none → s.env.turns = [] → s.cfg.speed ≠ 3#2 →
    Config.params.gainLut[s.cfg.gsel.toNat]? = some a →
    Config.params.itLut[s.cfg.isel.toNat]? = some b →
    s.env.answers =
      [.yes, .yes, .yes, .yes, .yes, .sample false, .got [0x00#8, 0x00#8], .got [x, y]] ++ rest →
    steps 9 s = .next { s with
      acc := sum
      brstat := ⟨0x00#8, 0x00#8⟩
      buf := s.buf.writeList 0 [x, y]
      result := BitVec.ofNat 32 (raw.toNat * (36 * a * b) / 1000)
      status := ⟨false, false, 0#3, s.status.wign⟩
      seq := .idle
      env := s.env.after rest 8
        [.select s.deviceId true,
          .write [Config.params.opcWrRd, Config.params.lxAddr ++ 0#1, 0x01#8] true,
          .write [Config.params.lxRegData] true, .write [0x02#8] true, .write (trailer sum) true,
          .readBit (some false), .read 2 (some [0x00#8, 0x00#8]), .read 2 (some [x, y])] }

/-- R158, R161: LX_INIT's last step, and its whole run with a valid selection when the bridge is not busy:
the payload is P_LX_CFGVAL of the selection, and BUF is not touched. -/
def Obligations.LxInitCompletes : Prop :=
  (∀ (s : State) (c : Word), s.seq = .run c ⟨.gotStatus (some [0x00#8, 0x00#8]), none⟩ →
    exec .lxInit s = .next { s with
      brstat := ⟨0x00#8, 0x00#8⟩
      status := ⟨false, false, 0#3, s.status.wign⟩
      seq := .idle }) ∧
  ∀ (s : State) (rest : List BusAnswer),
    let pay := Config.params.lxCfgVal s.cfg.gsel.toNat s.cfg.isel.toNat
    let sum := crc16 0x0000#16 ([Config.params.opcWr, Config.params.lxAddr ++ 0#1,
      BitVec.ofNat 8 (pay.length + 1), Config.params.lxRegCfg] ++ pay)
    s.runsAt .lxInit .start none → s.env.turns = [] → s.cfg.speed ≠ 3#2 →
    s.cfg.gsel.toNat < Config.params.gainLut.length → s.cfg.isel.toNat < Config.params.itLut.length →
    s.env.answers = [.yes, .yes, .yes, .yes, .yes, .sample false, .got [0x00#8, 0x00#8]] ++ rest →
    steps 8 s = .next { s with
      acc := sum
      brstat := ⟨0x00#8, 0x00#8⟩
      status := ⟨false, false, 0#3, s.status.wign⟩
      seq := .idle
      env := s.env.after rest 7
        [.select s.deviceId true, .write [Config.params.opcWr, Config.params.lxAddr ++ 0#1] true,
          .write [BitVec.ofNat 8 (pay.length + 1), Config.params.lxRegCfg] true, .write pay true,
          .write (trailer sum) true, .readBit (some false), .read 2 (some [0x00#8, 0x00#8])] }

/-! ## The invariant and termination -/

/-- R191: the invariant holds at reset. -/
def Obligations.ResetMeetsTheInvariant : Prop := Inv State.reset

/-- R31, R33, R35, R37, R113, R171: every step of the machine, whoever moves, keeps the invariant. -/
def Obligations.EveryStepKeepsTheInvariant : Prop :=
  ∀ s t : State, Inv s → step s = .next t → Inv t

/-- R52, R179: no step from a state that meets the invariant faults or refuses: the engine has no fault
and no stuck state. -/
def Obligations.NoStepFaultsOrRefuses : Prop :=
  ∀ s : State, Inv s → ∃ t, step s = .next t

/-- R205: every command completes, whatever the bus answers, within the bound of its primitives and one
step more (the spec's own derivation), where no scripted turn lets the host or reset in between: in the
default order, which is the model's choice (notes/assumptions/5.md). -/
def Obligations.EveryCommandCompletes : Prop :=
  ∀ (s : State) (i : Instr), s.runsAt i .start none → s.env.turns = [] →
    ∃ k t, 1 ≤ k ∧ k ≤ stepBound Config.params i s ∧ steps k s = .next t ∧ t.seq = .idle ∧
      t.status.busy = false

/-- R35, R205: along a running command every engine step brings the completion nearer: a step that does not
complete it leaves fewer steps than there were. -/
def Obligations.EngineStepsComeToAnEnd : Prop :=
  ∀ (s t : State) (i : Instr) (p : Pos), Inv s → s.seq = .run (encode i) p → exec i s = .next t →
    t.seq = .idle ∨ ∃ q, t.seq = .run (encode i) q ∧
      stepsLeft Config.params i t q < stepsLeft Config.params i s p
end

