-- ==== Sys2Proof/Laws/Memory.lean ====
section
/-! SUPPORT. The byte memory BUF: a read after a write, and the canonical form kept by every operation
(spec/10_state.md R33, R34). -/

namespace Sys2Proof.Machine

/-- No cell of the list lies at or below `a`. -/
theorem Memory.read_below (m : Memory) (a : Nat) (h : ∀ c ∈ m, a < c.1) : m.read a = Memory.unlisted := by
  induction m with
  | nil => rfl
  | cons c rest ih =>
    obtain ⟨k, w⟩ := c
    have hk : a < k := h (k, w) (by simp)
    rw [Memory.read, if_neg (by omega)]
    exact ih fun d hd => h d (by simp [hd])

/-- The cells of a list after a put: the byte put, or cells that stood there. -/
theorem Memory.mem_put (m : Memory) (a : Nat) (v : Byte) (c : Host.Cell) (h : c ∈ m.put a v) :
    (c = (a, v) ∧ v ≠ Memory.unlisted) ∨ c ∈ m := by
  induction m with
  | nil =>
    unfold Memory.put at h
    split at h
    · simp at h
    · left; simp_all
  | cons d rest ih =>
    obtain ⟨k, w⟩ := d
    unfold Memory.put at h
    split at h
    · split at h
      · exact .inr h
      · rcases List.mem_cons.1 h with rfl | h
        · left; simp_all
        · exact .inr h
    · split at h
      · split at h
        · exact .inr (by simp [h])
        · rcases List.mem_cons.1 h with rfl | h
          · left; simp_all
          · exact .inr (by simp [h])
      · rcases List.mem_cons.1 h with rfl | h
        · exact .inr (by simp)
        · rcases ih h with h | h
          · exact .inl h
          · exact .inr (by simp [h])

/-- A put keeps the indices strictly rising. -/
theorem Memory.put_sorted (m : Memory) (a : Nat) (v : Byte) (h : m.Pairwise fun c d => c.1 < d.1) :
    (m.put a v).Pairwise fun c d => c.1 < d.1 := by
  induction m with
  | nil => unfold Memory.put; split <;> simp
  | cons d rest ih =>
    obtain ⟨k, w⟩ := d
    have hrest := (List.pairwise_cons.1 h).2
    have hhead := (List.pairwise_cons.1 h).1
    unfold Memory.put
    split
    · rename_i hak
      split
      · exact h
      · refine List.pairwise_cons.2 ⟨fun c hc => ?_, h⟩
        rcases List.mem_cons.1 hc with rfl | hc
        · exact hak
        · exact Nat.lt_trans hak (hhead c hc)
    · split
      · rename_i hak
        split
        · exact hrest
        · exact List.pairwise_cons.2 ⟨fun c hc => by subst hak; exact hhead c hc, hrest⟩
      · refine List.pairwise_cons.2 ⟨fun c hc => ?_, ih hrest⟩
        rcases Memory.mem_put rest a v c hc with ⟨rfl, _⟩ | hc
        · simp only []; omega
        · exact hhead c hc

/-- A read after a put: the byte put at its index, every other byte as before. -/
theorem Memory.read_put (m : Memory) (a : Nat) (v : Byte) (b : Nat)
    (h : m.Pairwise fun c d => c.1 < d.1) :
    (m.put a v).read b = if b = a then v else m.read b := by
  induction m with
  | nil =>
    unfold Memory.put
    split <;> simp [Memory.read] <;> grind
  | cons d rest ih =>
    obtain ⟨k, w⟩ := d
    have hrest := (List.pairwise_cons.1 h).2
    have hhead := (List.pairwise_cons.1 h).1
    have hbelow : ∀ x, x ≤ k → Memory.read rest x = Memory.unlisted := fun x hx =>
      Memory.read_below rest x fun c hc => by have := hhead c hc; simp only [] at this; omega
    unfold Memory.put
    split
    · split
      · simp only [Memory.read]
        grind
      · simp only [Memory.read]
        grind
    · split
      · subst a
        split
        · simp only [Memory.read]
          grind
        · simp only [Memory.read]
          grind
      · simp only [Memory.read, ih hrest]
        grind

/-- A write keeps the canonical form. -/
theorem Memory.write_wf (m : Memory) (a : Nat) (v : Byte) (h : m.wf) : (m.write a v).wf := by
  unfold Memory.write
  split
  · rename_i ha
    refine ⟨Memory.put_sorted m a v h.1, fun c hc => ?_⟩
    rcases Memory.mem_put m a v c hc with ⟨rfl, hv⟩ | hc
    · exact ⟨ha, hv⟩
    · exact h.2 c hc
  · exact h

/-- A read after a write: the byte written at its index, every other byte as before. -/
theorem Memory.read_write (m : Memory) (a : Nat) (v : Byte) (b : Nat) (h : m.wf) :
    (m.write a v).read b = if b = a ∧ a < Config.bufSize then v else m.read b := by
  unfold Memory.write
  split
  · rename_i ha
    rw [Memory.read_put m a v b h.1]
    simp [ha]
  · rename_i ha
    simp [ha]

/-- A write of a list keeps the canonical form. -/
theorem Memory.writeList_wf (l : List Byte) (m : Memory) (a : Nat) (h : m.wf) :
    (m.writeList a l).wf := by
  induction l generalizing m a with
  | nil => exact h
  | cons b rest ih => exact ih _ _ (Memory.write_wf m a b h)

/-- A read after a write of a list: the listed byte where the list reaches, every other byte as before. -/
theorem Memory.read_writeList (l : List Byte) (m : Memory) (a b : Nat) (h : m.wf) :
    (m.writeList a l).read b =
      if a ≤ b ∧ b < a + l.length ∧ b < Config.bufSize then l.getD (b - a) 0#8 else m.read b := by
  induction l generalizing m a with
  | nil =>
    rw [if_neg (by simp only [List.length_nil]; omega)]
    rfl
  | cons x rest ih =>
    rw [Memory.writeList, ih _ _ (Memory.write_wf m a x h), Memory.read_write m a x b h]
    by_cases hb : b = a
    · subst hb
      simp only [List.length_cons, Nat.sub_self]
      grind
    · by_cases hab : a < b
      · obtain ⟨j, rfl⟩ : ∃ j, b = a + 1 + j := ⟨b - a - 1, by omega⟩
        have h1 : a + 1 + j - (a + 1) = j := by omega
        have h2 : a + 1 + j - a = j + 1 := by omega
        simp only [h1, h2, List.getD_cons_succ, List.length_cons]
        grind
      · grind

/-- The bytes a payload's store leaves alone are those from n on. -/
theorem storePayload_frame (n : Nat) (d : List Byte) (s : State) (a : Nat) (h : s.buf.wf) (ha : n ≤ a) :
    (storePayload n d s).buf.read a = s.buf.read a := by
  show (s.buf.writeList 0 (d.take n)).read a = s.buf.read a
  rw [Memory.read_writeList _ _ _ _ h, if_neg]
  rintro ⟨-, h2, -⟩
  have := List.length_take_le n d
  omega

end Sys2Proof.Machine
end

