-- ==== Sys2Proof/Laws/State.lean ====
section
/-! SUPPORT. What each named update of State and each shared operation that moves the engine leaves in each
field: one lemma a field, all true by unfolding. -/

namespace Sys2Proof.Machine

variable (s : State)

@[simp] theorem State.setCmd_cmd (v : Word) : (s.setCmd v).cmd = v := rfl
@[simp] theorem State.setCmd_status (v : Word) : (s.setCmd v).status = s.status := rfl
@[simp] theorem State.setCmd_acc (v : Word) : (s.setCmd v).acc = s.acc := rfl
@[simp] theorem State.setCmd_devidLo (v : Word) : (s.setCmd v).devidLo = s.devidLo := rfl
@[simp] theorem State.setCmd_devidHi (v : Word) : (s.setCmd v).devidHi = s.devidHi := rfl
@[simp] theorem State.setCmd_xfer (v : Word) : (s.setCmd v).xfer = s.xfer := rfl
@[simp] theorem State.setCmd_data (v : Word) : (s.setCmd v).data = s.data := rfl
@[simp] theorem State.setCmd_cfg (v : Word) : (s.setCmd v).cfg = s.cfg := rfl
@[simp] theorem State.setCmd_result (v : Word) : (s.setCmd v).result = s.result := rfl
@[simp] theorem State.setCmd_brstat (v : Word) : (s.setCmd v).brstat = s.brstat := rfl
@[simp] theorem State.setCmd_buf (v : Word) : (s.setCmd v).buf = s.buf := rfl
@[simp] theorem State.setCmd_seq (v : Word) : (s.setCmd v).seq = s.seq := rfl
@[simp] theorem State.setCmd_env (v : Word) : (s.setCmd v).env = s.env := rfl

@[simp] theorem State.setStatus_cmd (v : Status) : (s.setStatus v).cmd = s.cmd := rfl
@[simp] theorem State.setStatus_status (v : Status) : (s.setStatus v).status = v := rfl
@[simp] theorem State.setStatus_acc (v : Status) : (s.setStatus v).acc = s.acc := rfl
@[simp] theorem State.setStatus_devidLo (v : Status) : (s.setStatus v).devidLo = s.devidLo := rfl
@[simp] theorem State.setStatus_devidHi (v : Status) : (s.setStatus v).devidHi = s.devidHi := rfl
@[simp] theorem State.setStatus_xfer (v : Status) : (s.setStatus v).xfer = s.xfer := rfl
@[simp] theorem State.setStatus_data (v : Status) : (s.setStatus v).data = s.data := rfl
@[simp] theorem State.setStatus_cfg (v : Status) : (s.setStatus v).cfg = s.cfg := rfl
@[simp] theorem State.setStatus_result (v : Status) : (s.setStatus v).result = s.result := rfl
@[simp] theorem State.setStatus_brstat (v : Status) : (s.setStatus v).brstat = s.brstat := rfl
@[simp] theorem State.setStatus_buf (v : Status) : (s.setStatus v).buf = s.buf := rfl
@[simp] theorem State.setStatus_seq (v : Status) : (s.setStatus v).seq = s.seq := rfl
@[simp] theorem State.setStatus_env (v : Status) : (s.setStatus v).env = s.env := rfl

@[simp] theorem State.setAcc_cmd (v : Half) : (s.setAcc v).cmd = s.cmd := rfl
@[simp] theorem State.setAcc_status (v : Half) : (s.setAcc v).status = s.status := rfl
@[simp] theorem State.setAcc_acc (v : Half) : (s.setAcc v).acc = v := rfl
@[simp] theorem State.setAcc_devidLo (v : Half) : (s.setAcc v).devidLo = s.devidLo := rfl
@[simp] theorem State.setAcc_devidHi (v : Half) : (s.setAcc v).devidHi = s.devidHi := rfl
@[simp] theorem State.setAcc_xfer (v : Half) : (s.setAcc v).xfer = s.xfer := rfl
@[simp] theorem State.setAcc_data (v : Half) : (s.setAcc v).data = s.data := rfl
@[simp] theorem State.setAcc_cfg (v : Half) : (s.setAcc v).cfg = s.cfg := rfl
@[simp] theorem State.setAcc_result (v : Half) : (s.setAcc v).result = s.result := rfl
@[simp] theorem State.setAcc_brstat (v : Half) : (s.setAcc v).brstat = s.brstat := rfl
@[simp] theorem State.setAcc_buf (v : Half) : (s.setAcc v).buf = s.buf := rfl
@[simp] theorem State.setAcc_seq (v : Half) : (s.setAcc v).seq = s.seq := rfl
@[simp] theorem State.setAcc_env (v : Half) : (s.setAcc v).env = s.env := rfl

@[simp] theorem State.setDevidLo_cmd (v : Word) : (s.setDevidLo v).cmd = s.cmd := rfl
@[simp] theorem State.setDevidLo_status (v : Word) : (s.setDevidLo v).status = s.status := rfl
@[simp] theorem State.setDevidLo_acc (v : Word) : (s.setDevidLo v).acc = s.acc := rfl
@[simp] theorem State.setDevidLo_devidLo (v : Word) : (s.setDevidLo v).devidLo = v := rfl
@[simp] theorem State.setDevidLo_devidHi (v : Word) : (s.setDevidLo v).devidHi = s.devidHi := rfl
@[simp] theorem State.setDevidLo_xfer (v : Word) : (s.setDevidLo v).xfer = s.xfer := rfl
@[simp] theorem State.setDevidLo_data (v : Word) : (s.setDevidLo v).data = s.data := rfl
@[simp] theorem State.setDevidLo_cfg (v : Word) : (s.setDevidLo v).cfg = s.cfg := rfl
@[simp] theorem State.setDevidLo_result (v : Word) : (s.setDevidLo v).result = s.result := rfl
@[simp] theorem State.setDevidLo_brstat (v : Word) : (s.setDevidLo v).brstat = s.brstat := rfl
@[simp] theorem State.setDevidLo_buf (v : Word) : (s.setDevidLo v).buf = s.buf := rfl
@[simp] theorem State.setDevidLo_seq (v : Word) : (s.setDevidLo v).seq = s.seq := rfl
@[simp] theorem State.setDevidLo_env (v : Word) : (s.setDevidLo v).env = s.env := rfl

@[simp] theorem State.setDevidHi_cmd (v : Word) : (s.setDevidHi v).cmd = s.cmd := rfl
@[simp] theorem State.setDevidHi_status (v : Word) : (s.setDevidHi v).status = s.status := rfl
@[simp] theorem State.setDevidHi_acc (v : Word) : (s.setDevidHi v).acc = s.acc := rfl
@[simp] theorem State.setDevidHi_devidLo (v : Word) : (s.setDevidHi v).devidLo = s.devidLo := rfl
@[simp] theorem State.setDevidHi_devidHi (v : Word) : (s.setDevidHi v).devidHi = v := rfl
@[simp] theorem State.setDevidHi_xfer (v : Word) : (s.setDevidHi v).xfer = s.xfer := rfl
@[simp] theorem State.setDevidHi_data (v : Word) : (s.setDevidHi v).data = s.data := rfl
@[simp] theorem State.setDevidHi_cfg (v : Word) : (s.setDevidHi v).cfg = s.cfg := rfl
@[simp] theorem State.setDevidHi_result (v : Word) : (s.setDevidHi v).result = s.result := rfl
@[simp] theorem State.setDevidHi_brstat (v : Word) : (s.setDevidHi v).brstat = s.brstat := rfl
@[simp] theorem State.setDevidHi_buf (v : Word) : (s.setDevidHi v).buf = s.buf := rfl
@[simp] theorem State.setDevidHi_seq (v : Word) : (s.setDevidHi v).seq = s.seq := rfl
@[simp] theorem State.setDevidHi_env (v : Word) : (s.setDevidHi v).env = s.env := rfl

@[simp] theorem State.setXfer_cmd (v : Xfer) : (s.setXfer v).cmd = s.cmd := rfl
@[simp] theorem State.setXfer_status (v : Xfer) : (s.setXfer v).status = s.status := rfl
@[simp] theorem State.setXfer_acc (v : Xfer) : (s.setXfer v).acc = s.acc := rfl
@[simp] theorem State.setXfer_devidLo (v : Xfer) : (s.setXfer v).devidLo = s.devidLo := rfl
@[simp] theorem State.setXfer_devidHi (v : Xfer) : (s.setXfer v).devidHi = s.devidHi := rfl
@[simp] theorem State.setXfer_xfer (v : Xfer) : (s.setXfer v).xfer = v := rfl
@[simp] theorem State.setXfer_data (v : Xfer) : (s.setXfer v).data = s.data := rfl
@[simp] theorem State.setXfer_cfg (v : Xfer) : (s.setXfer v).cfg = s.cfg := rfl
@[simp] theorem State.setXfer_result (v : Xfer) : (s.setXfer v).result = s.result := rfl
@[simp] theorem State.setXfer_brstat (v : Xfer) : (s.setXfer v).brstat = s.brstat := rfl
@[simp] theorem State.setXfer_buf (v : Xfer) : (s.setXfer v).buf = s.buf := rfl
@[simp] theorem State.setXfer_seq (v : Xfer) : (s.setXfer v).seq = s.seq := rfl
@[simp] theorem State.setXfer_env (v : Xfer) : (s.setXfer v).env = s.env := rfl

@[simp] theorem State.setData_cmd (v : Half) : (s.setData v).cmd = s.cmd := rfl
@[simp] theorem State.setData_status (v : Half) : (s.setData v).status = s.status := rfl
@[simp] theorem State.setData_acc (v : Half) : (s.setData v).acc = s.acc := rfl
@[simp] theorem State.setData_devidLo (v : Half) : (s.setData v).devidLo = s.devidLo := rfl
@[simp] theorem State.setData_devidHi (v : Half) : (s.setData v).devidHi = s.devidHi := rfl
@[simp] theorem State.setData_xfer (v : Half) : (s.setData v).xfer = s.xfer := rfl
@[simp] theorem State.setData_data (v : Half) : (s.setData v).data = v := rfl
@[simp] theorem State.setData_cfg (v : Half) : (s.setData v).cfg = s.cfg := rfl
@[simp] theorem State.setData_result (v : Half) : (s.setData v).result = s.result := rfl
@[simp] theorem State.setData_brstat (v : Half) : (s.setData v).brstat = s.brstat := rfl
@[simp] theorem State.setData_buf (v : Half) : (s.setData v).buf = s.buf := rfl
@[simp] theorem State.setData_seq (v : Half) : (s.setData v).seq = s.seq := rfl
@[simp] theorem State.setData_env (v : Half) : (s.setData v).env = s.env := rfl

@[simp] theorem State.setCfg_cmd (v : Cfg) : (s.setCfg v).cmd = s.cmd := rfl
@[simp] theorem State.setCfg_status (v : Cfg) : (s.setCfg v).status = s.status := rfl
@[simp] theorem State.setCfg_acc (v : Cfg) : (s.setCfg v).acc = s.acc := rfl
@[simp] theorem State.setCfg_devidLo (v : Cfg) : (s.setCfg v).devidLo = s.devidLo := rfl
@[simp] theorem State.setCfg_devidHi (v : Cfg) : (s.setCfg v).devidHi = s.devidHi := rfl
@[simp] theorem State.setCfg_xfer (v : Cfg) : (s.setCfg v).xfer = s.xfer := rfl
@[simp] theorem State.setCfg_data (v : Cfg) : (s.setCfg v).data = s.data := rfl
@[simp] theorem State.setCfg_cfg (v : Cfg) : (s.setCfg v).cfg = v := rfl
@[simp] theorem State.setCfg_result (v : Cfg) : (s.setCfg v).result = s.result := rfl
@[simp] theorem State.setCfg_brstat (v : Cfg) : (s.setCfg v).brstat = s.brstat := rfl
@[simp] theorem State.setCfg_buf (v : Cfg) : (s.setCfg v).buf = s.buf := rfl
@[simp] theorem State.setCfg_seq (v : Cfg) : (s.setCfg v).seq = s.seq := rfl
@[simp] theorem State.setCfg_env (v : Cfg) : (s.setCfg v).env = s.env := rfl

@[simp] theorem State.setResult_cmd (v : Word) : (s.setResult v).cmd = s.cmd := rfl
@[simp] theorem State.setResult_status (v : Word) : (s.setResult v).status = s.status := rfl
@[simp] theorem State.setResult_acc (v : Word) : (s.setResult v).acc = s.acc := rfl
@[simp] theorem State.setResult_devidLo (v : Word) : (s.setResult v).devidLo = s.devidLo := rfl
@[simp] theorem State.setResult_devidHi (v : Word) : (s.setResult v).devidHi = s.devidHi := rfl
@[simp] theorem State.setResult_xfer (v : Word) : (s.setResult v).xfer = s.xfer := rfl
@[simp] theorem State.setResult_data (v : Word) : (s.setResult v).data = s.data := rfl
@[simp] theorem State.setResult_cfg (v : Word) : (s.setResult v).cfg = s.cfg := rfl
@[simp] theorem State.setResult_result (v : Word) : (s.setResult v).result = v := rfl
@[simp] theorem State.setResult_brstat (v : Word) : (s.setResult v).brstat = s.brstat := rfl
@[simp] theorem State.setResult_buf (v : Word) : (s.setResult v).buf = s.buf := rfl
@[simp] theorem State.setResult_seq (v : Word) : (s.setResult v).seq = s.seq := rfl
@[simp] theorem State.setResult_env (v : Word) : (s.setResult v).env = s.env := rfl

@[simp] theorem State.setBrstat_cmd (v : Brstat) : (s.setBrstat v).cmd = s.cmd := rfl
@[simp] theorem State.setBrstat_status (v : Brstat) : (s.setBrstat v).status = s.status := rfl
@[simp] theorem State.setBrstat_acc (v : Brstat) : (s.setBrstat v).acc = s.acc := rfl
@[simp] theorem State.setBrstat_devidLo (v : Brstat) : (s.setBrstat v).devidLo = s.devidLo := rfl
@[simp] theorem State.setBrstat_devidHi (v : Brstat) : (s.setBrstat v).devidHi = s.devidHi := rfl
@[simp] theorem State.setBrstat_xfer (v : Brstat) : (s.setBrstat v).xfer = s.xfer := rfl
@[simp] theorem State.setBrstat_data (v : Brstat) : (s.setBrstat v).data = s.data := rfl
@[simp] theorem State.setBrstat_cfg (v : Brstat) : (s.setBrstat v).cfg = s.cfg := rfl
@[simp] theorem State.setBrstat_result (v : Brstat) : (s.setBrstat v).result = s.result := rfl
@[simp] theorem State.setBrstat_brstat (v : Brstat) : (s.setBrstat v).brstat = v := rfl
@[simp] theorem State.setBrstat_buf (v : Brstat) : (s.setBrstat v).buf = s.buf := rfl
@[simp] theorem State.setBrstat_seq (v : Brstat) : (s.setBrstat v).seq = s.seq := rfl
@[simp] theorem State.setBrstat_env (v : Brstat) : (s.setBrstat v).env = s.env := rfl

@[simp] theorem State.setBuf_cmd (v : Memory) : (s.setBuf v).cmd = s.cmd := rfl
@[simp] theorem State.setBuf_status (v : Memory) : (s.setBuf v).status = s.status := rfl
@[simp] theorem State.setBuf_acc (v : Memory) : (s.setBuf v).acc = s.acc := rfl
@[simp] theorem State.setBuf_devidLo (v : Memory) : (s.setBuf v).devidLo = s.devidLo := rfl
@[simp] theorem State.setBuf_devidHi (v : Memory) : (s.setBuf v).devidHi = s.devidHi := rfl
@[simp] theorem State.setBuf_xfer (v : Memory) : (s.setBuf v).xfer = s.xfer := rfl
@[simp] theorem State.setBuf_data (v : Memory) : (s.setBuf v).data = s.data := rfl
@[simp] theorem State.setBuf_cfg (v : Memory) : (s.setBuf v).cfg = s.cfg := rfl
@[simp] theorem State.setBuf_result (v : Memory) : (s.setBuf v).result = s.result := rfl
@[simp] theorem State.setBuf_brstat (v : Memory) : (s.setBuf v).brstat = s.brstat := rfl
@[simp] theorem State.setBuf_buf (v : Memory) : (s.setBuf v).buf = v := rfl
@[simp] theorem State.setBuf_seq (v : Memory) : (s.setBuf v).seq = s.seq := rfl
@[simp] theorem State.setBuf_env (v : Memory) : (s.setBuf v).env = s.env := rfl

@[simp] theorem State.setSeq_cmd (v : Seq) : (s.setSeq v).cmd = s.cmd := rfl
@[simp] theorem State.setSeq_status (v : Seq) : (s.setSeq v).status = s.status := rfl
@[simp] theorem State.setSeq_acc (v : Seq) : (s.setSeq v).acc = s.acc := rfl
@[simp] theorem State.setSeq_devidLo (v : Seq) : (s.setSeq v).devidLo = s.devidLo := rfl
@[simp] theorem State.setSeq_devidHi (v : Seq) : (s.setSeq v).devidHi = s.devidHi := rfl
@[simp] theorem State.setSeq_xfer (v : Seq) : (s.setSeq v).xfer = s.xfer := rfl
@[simp] theorem State.setSeq_data (v : Seq) : (s.setSeq v).data = s.data := rfl
@[simp] theorem State.setSeq_cfg (v : Seq) : (s.setSeq v).cfg = s.cfg := rfl
@[simp] theorem State.setSeq_result (v : Seq) : (s.setSeq v).result = s.result := rfl
@[simp] theorem State.setSeq_brstat (v : Seq) : (s.setSeq v).brstat = s.brstat := rfl
@[simp] theorem State.setSeq_buf (v : Seq) : (s.setSeq v).buf = s.buf := rfl
@[simp] theorem State.setSeq_seq (v : Seq) : (s.setSeq v).seq = v := rfl
@[simp] theorem State.setSeq_env (v : Seq) : (s.setSeq v).env = s.env := rfl

@[simp] theorem State.setEnv_cmd (v : Env) : (s.setEnv v).cmd = s.cmd := rfl
@[simp] theorem State.setEnv_status (v : Env) : (s.setEnv v).status = s.status := rfl
@[simp] theorem State.setEnv_acc (v : Env) : (s.setEnv v).acc = s.acc := rfl
@[simp] theorem State.setEnv_devidLo (v : Env) : (s.setEnv v).devidLo = s.devidLo := rfl
@[simp] theorem State.setEnv_devidHi (v : Env) : (s.setEnv v).devidHi = s.devidHi := rfl
@[simp] theorem State.setEnv_xfer (v : Env) : (s.setEnv v).xfer = s.xfer := rfl
@[simp] theorem State.setEnv_data (v : Env) : (s.setEnv v).data = s.data := rfl
@[simp] theorem State.setEnv_cfg (v : Env) : (s.setEnv v).cfg = s.cfg := rfl
@[simp] theorem State.setEnv_result (v : Env) : (s.setEnv v).result = s.result := rfl
@[simp] theorem State.setEnv_brstat (v : Env) : (s.setEnv v).brstat = s.brstat := rfl
@[simp] theorem State.setEnv_buf (v : Env) : (s.setEnv v).buf = s.buf := rfl
@[simp] theorem State.setEnv_seq (v : Env) : (s.setEnv v).seq = s.seq := rfl
@[simp] theorem State.setEnv_env (v : Env) : (s.setEnv v).env = v := rfl

@[simp] theorem State.goto_cmd (pt : Point) : (s.goto pt).cmd = s.cmd := rfl
@[simp] theorem State.goto_status (pt : Point) : (s.goto pt).status = s.status := rfl
@[simp] theorem State.goto_acc (pt : Point) : (s.goto pt).acc = s.acc := rfl
@[simp] theorem State.goto_devidLo (pt : Point) : (s.goto pt).devidLo = s.devidLo := rfl
@[simp] theorem State.goto_devidHi (pt : Point) : (s.goto pt).devidHi = s.devidHi := rfl
@[simp] theorem State.goto_xfer (pt : Point) : (s.goto pt).xfer = s.xfer := rfl
@[simp] theorem State.goto_data (pt : Point) : (s.goto pt).data = s.data := rfl
@[simp] theorem State.goto_cfg (pt : Point) : (s.goto pt).cfg = s.cfg := rfl
@[simp] theorem State.goto_result (pt : Point) : (s.goto pt).result = s.result := rfl
@[simp] theorem State.goto_brstat (pt : Point) : (s.goto pt).brstat = s.brstat := rfl
@[simp] theorem State.goto_buf (pt : Point) : (s.goto pt).buf = s.buf := rfl
@[simp] theorem State.goto_seq (pt : Point) : (s.goto pt).seq = s.seq.goto pt := rfl
@[simp] theorem State.goto_env (pt : Point) : (s.goto pt).env = s.env := rfl

@[simp] theorem State.hold_cmd (d : List Byte) : (s.hold d).cmd = s.cmd := rfl
@[simp] theorem State.hold_status (d : List Byte) : (s.hold d).status = s.status := rfl
@[simp] theorem State.hold_acc (d : List Byte) : (s.hold d).acc = s.acc := rfl
@[simp] theorem State.hold_devidLo (d : List Byte) : (s.hold d).devidLo = s.devidLo := rfl
@[simp] theorem State.hold_devidHi (d : List Byte) : (s.hold d).devidHi = s.devidHi := rfl
@[simp] theorem State.hold_xfer (d : List Byte) : (s.hold d).xfer = s.xfer := rfl
@[simp] theorem State.hold_data (d : List Byte) : (s.hold d).data = s.data := rfl
@[simp] theorem State.hold_cfg (d : List Byte) : (s.hold d).cfg = s.cfg := rfl
@[simp] theorem State.hold_result (d : List Byte) : (s.hold d).result = s.result := rfl
@[simp] theorem State.hold_brstat (d : List Byte) : (s.hold d).brstat = s.brstat := rfl
@[simp] theorem State.hold_buf (d : List Byte) : (s.hold d).buf = s.buf := rfl
@[simp] theorem State.hold_seq (d : List Byte) : (s.hold d).seq = s.seq.hold d := rfl
@[simp] theorem State.hold_env (d : List Byte) : (s.hold d).env = s.env := rfl

@[simp] theorem State.complete_cmd (err : Bool) (code : BitVec 3) : (s.complete err code).cmd = s.cmd := rfl
@[simp] theorem State.complete_status (err : Bool) (code : BitVec 3) : (s.complete err code).status = s.status.completed err code := rfl
@[simp] theorem State.complete_acc (err : Bool) (code : BitVec 3) : (s.complete err code).acc = s.acc := rfl
@[simp] theorem State.complete_devidLo (err : Bool) (code : BitVec 3) : (s.complete err code).devidLo = s.devidLo := rfl
@[simp] theorem State.complete_devidHi (err : Bool) (code : BitVec 3) : (s.complete err code).devidHi = s.devidHi := rfl
@[simp] theorem State.complete_xfer (err : Bool) (code : BitVec 3) : (s.complete err code).xfer = s.xfer := rfl
@[simp] theorem State.complete_data (err : Bool) (code : BitVec 3) : (s.complete err code).data = s.data := rfl
@[simp] theorem State.complete_cfg (err : Bool) (code : BitVec 3) : (s.complete err code).cfg = s.cfg := rfl
@[simp] theorem State.complete_result (err : Bool) (code : BitVec 3) : (s.complete err code).result = s.result := rfl
@[simp] theorem State.complete_brstat (err : Bool) (code : BitVec 3) : (s.complete err code).brstat = s.brstat := rfl
@[simp] theorem State.complete_buf (err : Bool) (code : BitVec 3) : (s.complete err code).buf = s.buf := rfl
@[simp] theorem State.complete_seq (err : Bool) (code : BitVec 3) : (s.complete err code).seq = .idle := rfl
@[simp] theorem State.complete_env (err : Bool) (code : BitVec 3) : (s.complete err code).env = s.env := rfl

@[simp] theorem finish_cmd : (finish s).cmd = s.cmd := rfl
@[simp] theorem finish_status : (finish s).status = s.status.completed false codeNone := rfl
@[simp] theorem finish_acc : (finish s).acc = s.acc := rfl
@[simp] theorem finish_devidLo : (finish s).devidLo = s.devidLo := rfl
@[simp] theorem finish_devidHi : (finish s).devidHi = s.devidHi := rfl
@[simp] theorem finish_xfer : (finish s).xfer = s.xfer := rfl
@[simp] theorem finish_data : (finish s).data = s.data := rfl
@[simp] theorem finish_cfg : (finish s).cfg = s.cfg := rfl
@[simp] theorem finish_result : (finish s).result = s.result := rfl
@[simp] theorem finish_brstat : (finish s).brstat = s.brstat := rfl
@[simp] theorem finish_buf : (finish s).buf = s.buf := rfl
@[simp] theorem finish_seq : (finish s).seq = .idle := rfl
@[simp] theorem finish_env : (finish s).env = s.env := rfl

@[simp] theorem finishMismatch_cmd : (finishMismatch s).cmd = s.cmd := rfl
@[simp] theorem finishMismatch_status : (finishMismatch s).status = s.status.completed false codeMismatch := rfl
@[simp] theorem finishMismatch_acc : (finishMismatch s).acc = s.acc := rfl
@[simp] theorem finishMismatch_devidLo : (finishMismatch s).devidLo = s.devidLo := rfl
@[simp] theorem finishMismatch_devidHi : (finishMismatch s).devidHi = s.devidHi := rfl
@[simp] theorem finishMismatch_xfer : (finishMismatch s).xfer = s.xfer := rfl
@[simp] theorem finishMismatch_data : (finishMismatch s).data = s.data := rfl
@[simp] theorem finishMismatch_cfg : (finishMismatch s).cfg = s.cfg := rfl
@[simp] theorem finishMismatch_result : (finishMismatch s).result = s.result := rfl
@[simp] theorem finishMismatch_brstat : (finishMismatch s).brstat = s.brstat := rfl
@[simp] theorem finishMismatch_buf : (finishMismatch s).buf = s.buf := rfl
@[simp] theorem finishMismatch_seq : (finishMismatch s).seq = .idle := rfl
@[simp] theorem finishMismatch_env : (finishMismatch s).env = s.env := rfl

@[simp] theorem raiseIllegalWord_cmd : (raiseIllegalWord s).cmd = s.cmd := rfl
@[simp] theorem raiseIllegalWord_status : (raiseIllegalWord s).status = s.status.completed true 6#3 := rfl
@[simp] theorem raiseIllegalWord_acc : (raiseIllegalWord s).acc = s.acc := rfl
@[simp] theorem raiseIllegalWord_devidLo : (raiseIllegalWord s).devidLo = s.devidLo := rfl
@[simp] theorem raiseIllegalWord_devidHi : (raiseIllegalWord s).devidHi = s.devidHi := rfl
@[simp] theorem raiseIllegalWord_xfer : (raiseIllegalWord s).xfer = s.xfer := rfl
@[simp] theorem raiseIllegalWord_data : (raiseIllegalWord s).data = s.data := rfl
@[simp] theorem raiseIllegalWord_cfg : (raiseIllegalWord s).cfg = s.cfg := rfl
@[simp] theorem raiseIllegalWord_result : (raiseIllegalWord s).result = s.result := rfl
@[simp] theorem raiseIllegalWord_brstat : (raiseIllegalWord s).brstat = s.brstat := rfl
@[simp] theorem raiseIllegalWord_buf : (raiseIllegalWord s).buf = s.buf := rfl
@[simp] theorem raiseIllegalWord_seq : (raiseIllegalWord s).seq = .idle := rfl
@[simp] theorem raiseIllegalWord_env : (raiseIllegalWord s).env = s.env := rfl

@[simp] theorem State.answered_cmd (e : BusEvent) : (s.answered e).cmd = s.cmd := rfl
@[simp] theorem State.answered_status (e : BusEvent) : (s.answered e).status = s.status := rfl
@[simp] theorem State.answered_acc (e : BusEvent) : (s.answered e).acc = s.acc := rfl
@[simp] theorem State.answered_devidLo (e : BusEvent) : (s.answered e).devidLo = s.devidLo := rfl
@[simp] theorem State.answered_devidHi (e : BusEvent) : (s.answered e).devidHi = s.devidHi := rfl
@[simp] theorem State.answered_xfer (e : BusEvent) : (s.answered e).xfer = s.xfer := rfl
@[simp] theorem State.answered_data (e : BusEvent) : (s.answered e).data = s.data := rfl
@[simp] theorem State.answered_cfg (e : BusEvent) : (s.answered e).cfg = s.cfg := rfl
@[simp] theorem State.answered_result (e : BusEvent) : (s.answered e).result = s.result := rfl
@[simp] theorem State.answered_brstat (e : BusEvent) : (s.answered e).brstat = s.brstat := rfl
@[simp] theorem State.answered_buf (e : BusEvent) : (s.answered e).buf = s.buf := rfl
@[simp] theorem State.answered_seq (e : BusEvent) : (s.answered e).seq = s.seq := rfl
@[simp] theorem State.answered_env (e : BusEvent) : (s.answered e).env = 
      { s.env with answers := s.env.answers.tail, draws := s.env.draws + 1, events := s.env.events ++ [e] } := rfl

@[simp] theorem busSelect_cmd (k : Bool → Point) : (busSelect k s).cmd = s.cmd := rfl
@[simp] theorem busSelect_status (k : Bool → Point) : (busSelect k s).status = s.status := rfl
@[simp] theorem busSelect_acc (k : Bool → Point) : (busSelect k s).acc = s.acc := rfl
@[simp] theorem busSelect_devidLo (k : Bool → Point) : (busSelect k s).devidLo = s.devidLo := rfl
@[simp] theorem busSelect_devidHi (k : Bool → Point) : (busSelect k s).devidHi = s.devidHi := rfl
@[simp] theorem busSelect_xfer (k : Bool → Point) : (busSelect k s).xfer = s.xfer := rfl
@[simp] theorem busSelect_data (k : Bool → Point) : (busSelect k s).data = s.data := rfl
@[simp] theorem busSelect_cfg (k : Bool → Point) : (busSelect k s).cfg = s.cfg := rfl
@[simp] theorem busSelect_result (k : Bool → Point) : (busSelect k s).result = s.result := rfl
@[simp] theorem busSelect_brstat (k : Bool → Point) : (busSelect k s).brstat = s.brstat := rfl
@[simp] theorem busSelect_buf (k : Bool → Point) : (busSelect k s).buf = s.buf := rfl
@[simp] theorem busSelect_seq (k : Bool → Point) : (busSelect k s).seq = s.seq.goto (k s.answer.ok) := rfl
@[simp] theorem busSelect_env (k : Bool → Point) : (busSelect k s).env = 
      { s.env with answers := s.env.answers.tail, draws := s.env.draws + 1, events := s.env.events ++ [.select s.deviceId s.answer.ok] } := rfl

@[simp] theorem busWrite_cmd (l : List Byte) (k : Bool → Point) : (busWrite l k s).cmd = s.cmd := rfl
@[simp] theorem busWrite_status (l : List Byte) (k : Bool → Point) : (busWrite l k s).status = s.status := rfl
@[simp] theorem busWrite_acc (l : List Byte) (k : Bool → Point) : (busWrite l k s).acc = s.acc := rfl
@[simp] theorem busWrite_devidLo (l : List Byte) (k : Bool → Point) : (busWrite l k s).devidLo = s.devidLo := rfl
@[simp] theorem busWrite_devidHi (l : List Byte) (k : Bool → Point) : (busWrite l k s).devidHi = s.devidHi := rfl
@[simp] theorem busWrite_xfer (l : List Byte) (k : Bool → Point) : (busWrite l k s).xfer = s.xfer := rfl
@[simp] theorem busWrite_data (l : List Byte) (k : Bool → Point) : (busWrite l k s).data = s.data := rfl
@[simp] theorem busWrite_cfg (l : List Byte) (k : Bool → Point) : (busWrite l k s).cfg = s.cfg := rfl
@[simp] theorem busWrite_result (l : List Byte) (k : Bool → Point) : (busWrite l k s).result = s.result := rfl
@[simp] theorem busWrite_brstat (l : List Byte) (k : Bool → Point) : (busWrite l k s).brstat = s.brstat := rfl
@[simp] theorem busWrite_buf (l : List Byte) (k : Bool → Point) : (busWrite l k s).buf = s.buf := rfl
@[simp] theorem busWrite_seq (l : List Byte) (k : Bool → Point) : (busWrite l k s).seq = s.seq.goto (k s.answer.ok) := rfl
@[simp] theorem busWrite_env (l : List Byte) (k : Bool → Point) : (busWrite l k s).env = 
      { s.env with answers := s.env.answers.tail, draws := s.env.draws + 1, events := s.env.events ++ [.write l s.answer.ok] } := rfl

@[simp] theorem busRead_cmd (n : Nat) (k : Option (List Byte) → Point) : (busRead n k s).cmd = s.cmd := rfl
@[simp] theorem busRead_status (n : Nat) (k : Option (List Byte) → Point) : (busRead n k s).status = s.status := rfl
@[simp] theorem busRead_acc (n : Nat) (k : Option (List Byte) → Point) : (busRead n k s).acc = s.acc := rfl
@[simp] theorem busRead_devidLo (n : Nat) (k : Option (List Byte) → Point) : (busRead n k s).devidLo = s.devidLo := rfl
@[simp] theorem busRead_devidHi (n : Nat) (k : Option (List Byte) → Point) : (busRead n k s).devidHi = s.devidHi := rfl
@[simp] theorem busRead_xfer (n : Nat) (k : Option (List Byte) → Point) : (busRead n k s).xfer = s.xfer := rfl
@[simp] theorem busRead_data (n : Nat) (k : Option (List Byte) → Point) : (busRead n k s).data = s.data := rfl
@[simp] theorem busRead_cfg (n : Nat) (k : Option (List Byte) → Point) : (busRead n k s).cfg = s.cfg := rfl
@[simp] theorem busRead_result (n : Nat) (k : Option (List Byte) → Point) : (busRead n k s).result = s.result := rfl
@[simp] theorem busRead_brstat (n : Nat) (k : Option (List Byte) → Point) : (busRead n k s).brstat = s.brstat := rfl
@[simp] theorem busRead_buf (n : Nat) (k : Option (List Byte) → Point) : (busRead n k s).buf = s.buf := rfl
@[simp] theorem busRead_seq (n : Nat) (k : Option (List Byte) → Point) : (busRead n k s).seq = s.seq.goto (k (s.readAnswer n)) := rfl
@[simp] theorem busRead_env (n : Nat) (k : Option (List Byte) → Point) : (busRead n k s).env = 
      { s.env with answers := s.env.answers.tail, draws := s.env.draws + 1, events := s.env.events ++ [.read n (s.readAnswer n)] } := rfl

@[simp] theorem busReadBit_cmd (k : Option Bool → Point) : (busReadBit k s).cmd = s.cmd := rfl
@[simp] theorem busReadBit_status (k : Option Bool → Point) : (busReadBit k s).status = s.status := rfl
@[simp] theorem busReadBit_acc (k : Option Bool → Point) : (busReadBit k s).acc = s.acc := rfl
@[simp] theorem busReadBit_devidLo (k : Option Bool → Point) : (busReadBit k s).devidLo = s.devidLo := rfl
@[simp] theorem busReadBit_devidHi (k : Option Bool → Point) : (busReadBit k s).devidHi = s.devidHi := rfl
@[simp] theorem busReadBit_xfer (k : Option Bool → Point) : (busReadBit k s).xfer = s.xfer := rfl
@[simp] theorem busReadBit_data (k : Option Bool → Point) : (busReadBit k s).data = s.data := rfl
@[simp] theorem busReadBit_cfg (k : Option Bool → Point) : (busReadBit k s).cfg = s.cfg := rfl
@[simp] theorem busReadBit_result (k : Option Bool → Point) : (busReadBit k s).result = s.result := rfl
@[simp] theorem busReadBit_brstat (k : Option Bool → Point) : (busReadBit k s).brstat = s.brstat := rfl
@[simp] theorem busReadBit_buf (k : Option Bool → Point) : (busReadBit k s).buf = s.buf := rfl
@[simp] theorem busReadBit_seq (k : Option Bool → Point) : (busReadBit k s).seq = s.seq.goto (k s.bitAnswer) := rfl
@[simp] theorem busReadBit_env (k : Option Bool → Point) : (busReadBit k s).env = 
      { s.env with answers := s.env.answers.tail, draws := s.env.draws + 1, events := s.env.events ++ [.readBit s.bitAnswer] } := rfl

@[simp] theorem busSleep_cmd (us : Nat) (pt : Point) : (busSleep us pt s).cmd = s.cmd := rfl
@[simp] theorem busSleep_status (us : Nat) (pt : Point) : (busSleep us pt s).status = s.status := rfl
@[simp] theorem busSleep_acc (us : Nat) (pt : Point) : (busSleep us pt s).acc = s.acc := rfl
@[simp] theorem busSleep_devidLo (us : Nat) (pt : Point) : (busSleep us pt s).devidLo = s.devidLo := rfl
@[simp] theorem busSleep_devidHi (us : Nat) (pt : Point) : (busSleep us pt s).devidHi = s.devidHi := rfl
@[simp] theorem busSleep_xfer (us : Nat) (pt : Point) : (busSleep us pt s).xfer = s.xfer := rfl
@[simp] theorem busSleep_data (us : Nat) (pt : Point) : (busSleep us pt s).data = s.data := rfl
@[simp] theorem busSleep_cfg (us : Nat) (pt : Point) : (busSleep us pt s).cfg = s.cfg := rfl
@[simp] theorem busSleep_result (us : Nat) (pt : Point) : (busSleep us pt s).result = s.result := rfl
@[simp] theorem busSleep_brstat (us : Nat) (pt : Point) : (busSleep us pt s).brstat = s.brstat := rfl
@[simp] theorem busSleep_buf (us : Nat) (pt : Point) : (busSleep us pt s).buf = s.buf := rfl
@[simp] theorem busSleep_seq (us : Nat) (pt : Point) : (busSleep us pt s).seq = s.seq.goto pt := rfl
@[simp] theorem busSleep_env (us : Nat) (pt : Point) : (busSleep us pt s).env = 
      { s.env with events := s.env.events ++ [.sleep us] } := rfl

@[simp] theorem Seq.goto_idle (pt : Point) : Seq.idle.goto pt = .idle := rfl
@[simp] theorem Seq.goto_run (c : Word) (p : Pos) (pt : Point) :
    (Seq.run c p).goto pt = .run c ⟨pt, p.held⟩ := rfl
@[simp] theorem Seq.hold_idle (d : List Byte) : Seq.idle.hold d = .idle := rfl
@[simp] theorem Seq.hold_run (c : Word) (p : Pos) (d : List Byte) :
    (Seq.run c p).hold d = .run c ⟨p.point, some d⟩ := rfl
@[simp] theorem Seq.held_idle : Seq.idle.held = none := rfl
@[simp] theorem Seq.held_run (c : Word) (p : Pos) : (Seq.run c p).held = p.held := rfl
@[simp] theorem Seq.running_idle : Seq.idle.running = false := rfl
@[simp] theorem Seq.running_run (c : Word) (p : Pos) : (Seq.run c p).running = true := rfl
@[simp] theorem Seq.running_goto (q : Seq) (pt : Point) : (q.goto pt).running = q.running := by
  cases q <;> rfl
@[simp] theorem Seq.running_hold (q : Seq) (d : List Byte) : (q.hold d).running = q.running := by
  cases q <;> rfl

@[simp] theorem Status.started_busy (st : Status) : st.started.busy = true := rfl
@[simp] theorem Status.started_err (st : Status) : st.started.err = false := rfl
@[simp] theorem Status.started_code (st : Status) : st.started.code = codeNone := rfl
@[simp] theorem Status.started_wign (st : Status) : st.started.wign = st.wign := rfl
@[simp] theorem Status.completed_busy (st : Status) (e : Bool) (c : BitVec 3) :
    (st.completed e c).busy = false := rfl
@[simp] theorem Status.completed_err (st : Status) (e : Bool) (c : BitVec 3) :
    (st.completed e c).err = e := rfl
@[simp] theorem Status.completed_code (st : Status) (e : Bool) (c : BitVec 3) :
    (st.completed e c).code = c := rfl
@[simp] theorem Status.completed_wign (st : Status) (e : Bool) (c : BitVec 3) :
    (st.completed e c).wign = st.wign := rfl
@[simp] theorem Status.dropped_busy (st : Status) : st.dropped.busy = st.busy := rfl
@[simp] theorem Status.dropped_err (st : Status) : st.dropped.err = st.err := rfl
@[simp] theorem Status.dropped_code (st : Status) : st.dropped.code = st.code := rfl
@[simp] theorem Status.dropped_wign (st : Status) : st.dropped.wign = true := rfl
@[simp] theorem Status.written_busy (st : Status) (v : Word) : (st.written v).busy = st.busy := by
  unfold Status.written; split <;> rfl
@[simp] theorem Status.written_err (st : Status) (v : Word) : (st.written v).err = st.err := by
  unfold Status.written; split <;> rfl
@[simp] theorem Status.written_code (st : Status) (v : Word) : (st.written v).code = st.code := by
  unfold Status.written; split <;> rfl

end Sys2Proof.Machine
end

