-- ==== Sys2Proof/Laws/Ops.lean ====
section
/-! SUPPORT. What each shared operation can do, said once, so that no later proof unfolds it. -/

namespace Sys2Proof.Machine

variable {s t : State}

/-- A meaning answers a next state exactly when a command runs and its pseudocode has the place. -/
theorem atPlace_next_iff (k : Point → Option State) :
    atPlace s k = .next t ↔ ∃ c p, s.seq = .run c p ∧ k p.point = some t := by
  unfold atPlace
  split
  · rename_i h; simp [h]
  · rename_i c p h
    split <;> simp_all

/-- A meaning at a place of its pseudocode. -/
theorem atPlace_run (k : Point → Option State) (c : Word) (p : Pos) (h : s.seq = .run c p)
    (hk : k p.point = some t) : atPlace s k = .next t :=
  (atPlace_next_iff k).2 ⟨c, p, h, hk⟩

/-- A meaning never refuses. -/
theorem atPlace_ne_refused (k : Point → Option State) (r : Refusal) : atPlace s k ≠ .refused r := by
  unfold atPlace
  split
  · simp
  · split <;> simp

/-- The start of a command: the failure completion, or its first step. -/
theorem checked_cases (p : Params) (i : Instr) (go : State → State) (s : State) :
    (argsIllegal p i s = true ∧ checked p i go s = raise i .illegalCommand s) ∨
      (argsIllegal p i s = false ∧ checked p i go s = go s) := by
  unfold checked
  cases argsIllegal p i s <;> simp

/-- A failure completion writes STATUS and SEQ, and RESULT for a result-producing command that ran. -/
theorem raise_eq (i : Instr) (e : Failure) (s : State) :
    raise i e s = (s.setResult
      (if resultProducing i = true ∧ e ≠ .illegalCommand then 0#32 else s.result)).complete true e.code := by
  unfold raise
  split <;> rfl

@[simp] theorem raise_cmd (i : Instr) (e : Failure) (s : State) : (raise i e s).cmd = s.cmd := by simp [raise_eq]
@[simp] theorem raise_status (i : Instr) (e : Failure) (s : State) :
    (raise i e s).status = s.status.completed true e.code := by simp [raise_eq]
@[simp] theorem raise_acc (i : Instr) (e : Failure) (s : State) : (raise i e s).acc = s.acc := by simp [raise_eq]
@[simp] theorem raise_devidLo (i : Instr) (e : Failure) (s : State) :
    (raise i e s).devidLo = s.devidLo := by simp [raise_eq]
@[simp] theorem raise_devidHi (i : Instr) (e : Failure) (s : State) :
    (raise i e s).devidHi = s.devidHi := by simp [raise_eq]
@[simp] theorem raise_xfer (i : Instr) (e : Failure) (s : State) : (raise i e s).xfer = s.xfer := by simp [raise_eq]
@[simp] theorem raise_data (i : Instr) (e : Failure) (s : State) : (raise i e s).data = s.data := by simp [raise_eq]
@[simp] theorem raise_cfg (i : Instr) (e : Failure) (s : State) : (raise i e s).cfg = s.cfg := by simp [raise_eq]
@[simp] theorem raise_brstat (i : Instr) (e : Failure) (s : State) :
    (raise i e s).brstat = s.brstat := by simp [raise_eq]
@[simp] theorem raise_buf (i : Instr) (e : Failure) (s : State) : (raise i e s).buf = s.buf := by simp [raise_eq]
@[simp] theorem raise_seq (i : Instr) (e : Failure) (s : State) : (raise i e s).seq = .idle := by simp [raise_eq]
@[simp] theorem raise_env (i : Instr) (e : Failure) (s : State) : (raise i e s).env = s.env := by simp [raise_eq]

/-- The answer of a `BusRead(n)` has n bytes. -/
theorem answerBytes_length (s : State) (n : Nat) : (s.answerBytes n).length = n := by
  simp [State.answerBytes]

/-- A step that needs an ok answer: it goes on, or it raises BusError with nothing changed. -/
theorem needOk_cases (ok : Bool) (s : State) (go : FrameStep) :
    (ok = true ∧ needOk ok s go = go) ∨ (ok = false ∧ needOk ok s go = .raised s .busError) := by
  cases ok <;> simp [needOk]

/-- STATUS_CHECK succeeds exactly on two zero bytes (R107). -/
theorem statusCheck_none_iff (p : Params) (b : Brstat) :
    statusCheck p b = none ↔ b.st0 = 0x00#8 ∧ b.st1 = 0x00#8 := by
  unfold statusCheck
  split
  · simp_all
  · split <;> simp_all

/-- What STATUS_CHECK can raise (R107). -/
theorem statusCheck_some (p : Params) (b : Brstat) (e : Failure) (h : statusCheck p b = some e) :
    ¬(b.st0 = 0x00#8 ∧ b.st1 = 0x00#8) ∧
      e = if b.st0.getLsbD p.stCrcBit then .checksumError else .busError := by
  unfold statusCheck at h
  split at h
  · simp at h
  · rename_i hb
    refine ⟨hb, ?_⟩
    split at h <;> simp_all

/-- What a frame's procedure leaves alone in one step, whatever the step comes to: every operand of the
running command, STATUS and RESULT (R65, R76). -/
structure FrameKeeps (s t : State) : Prop where
  cmd : t.cmd = s.cmd
  status : t.status = s.status
  devidLo : t.devidLo = s.devidLo
  devidHi : t.devidHi = s.devidHi
  xfer : t.xfer = s.xfer
  data : t.data = s.data
  cfg : t.cfg = s.cfg
  result : t.result = s.result

/-- The state a frame's step ends in. -/
def FrameStep.state : FrameStep → State
  | .issued t => t
  | .returned t _ => t
  | .raised t _ => t

theorem frameSend_keeps (f : Frame) (k : Nat) (s : State) : FrameKeeps s (frameSend f k s) := by
  unfold frameSend
  split <;> constructor <;> rfl

theorem pollRetry_keeps (left : Nat) (s : State) : FrameKeeps s (pollRetry left s).state := by
  cases left <;> constructor <;> rfl

theorem pollExpected_keeps (p : Params) (left : Nat) (s : State) :
    FrameKeeps s (pollExpected p left s).state := by
  cases left
  · exact pollRetry_keeps p.retry s
  · constructor <;> rfl

theorem frameStatus_keeps (p : Params) (f : Frame) (d : List Byte) (s : State) :
    FrameKeeps s (frameStatus p f d s).state := by
  simp only [frameStatus]
  split
  · unfold frameEnd
    split <;> constructor <;> rfl
  · constructor <;> rfl

/-- One step of a frame keeps every operand, STATUS and RESULT. -/
theorem frameStep_keeps (p : Params) (f : Frame) (pt : Point) (s : State) (r : FrameStep)
    (h : frameStep p f pt s = some r) : FrameKeeps s r.state := by
  have hraise : FrameKeeps s s := by constructor <;> rfl
  have hneed : ∀ ok go, FrameKeeps s (FrameStep.state go) → FrameKeeps s (needOk ok s go).state := by
    intro ok go hgo
    rcases needOk_cases ok s go with ⟨-, e⟩ | ⟨-, e⟩ <;> rw [e]
    · exact hgo
    · exact hraise
  unfold frameStep at h
  split at h <;> first | (injection h with h; subst h) | skip
  · simp at h
  · exact hneed _ _ (frameSend_keeps f _ s)
  · exact hneed _ _ (frameSend_keeps f _ s)
  · exact hneed _ _ (by constructor <;> rfl)
  · exact hraise
  · constructor <;> rfl
  · exact pollExpected_keeps p _ s
  · exact pollExpected_keeps p _ s
  · exact hraise
  · constructor <;> rfl
  · constructor <;> rfl
  · exact pollRetry_keeps _ s
  · exact hraise
  · exact frameStatus_keeps p f _ s
  · obtain ⟨n, hn, rfl⟩ := Option.map_eq_some_iff.1 h
    exact hraise
  · obtain ⟨n, hn, rfl⟩ := Option.map_eq_some_iff.1 h
    constructor <;> rfl

end Sys2Proof.Machine
end

