-- ==== Sys2Proof/Laws/Params.lean ====
section
/-! SUPPORT. What is known of the engine's parameters: R7, and P_RETRY (spec/00_scope.md R6, R7). -/

namespace Sys2Proof

/-- The engine's parameters meet R7. -/
theorem params_wf : Config.params.wf = true := Config.chosen.ok

@[simp] theorem params_retry : Config.params.retry = 100 := rfl

/-- The checks of R7 one by one. -/
theorem wf_cases (p : Params) (h : p.wf = true) :
    p.tableSizesOk = true ∧ p.entriesPositive = true ∧ p.factorBounded = true ∧ p.defaultGainOk = true ∧
      p.defaultTimeOk = true ∧ p.cfgValOk = true ∧ p.crcBitOk = true := by
  simpa [Params.wf, and_assoc] using h

/-- The default gain factor is 2 (R7). -/
theorem defaultGain : Config.params.gainLut[Config.params.gselRst.toNat]? = some 2 := by
  simpa [Params.defaultGainOk] using (wf_cases _ params_wf).2.2.2.1

/-- The default integration-time factor is 8 (R7). -/
theorem defaultTime : Config.params.itLut[Config.params.iselRst.toNat]? = some 8 := by
  simpa [Params.defaultTimeOk] using (wf_cases _ params_wf).2.2.2.2.1

/-- The reset selection is inside the tables (R7). -/
theorem defaultSelection_inside : Config.params.gselRst.toNat < Config.params.gainLut.length ∧
    Config.params.iselRst.toNat < Config.params.itLut.length :=
  ⟨(List.getElem?_eq_some_iff.1 defaultGain).1, (List.getElem?_eq_some_iff.1 defaultTime).1⟩

/-- The configuration payload has 1 to 16 bytes for a selection inside the tables (R7). -/
theorem cfgVal_length (g t : Nat) (hg : g < Config.params.gainLut.length)
    (ht : t < Config.params.itLut.length) :
    1 ≤ (Config.params.lxCfgVal g t).length ∧ (Config.params.lxCfgVal g t).length ≤ 16 := by
  have h := (wf_cases _ params_wf).2.2.2.2.2.1
  simp only [Params.cfgValOk, List.all_eq_true, List.mem_range, Bool.and_eq_true,
    decide_eq_true_eq] at h
  exact h g hg t ht

end Sys2Proof
end

