-- ==== Sys2Proof/Laws/PerInstr.lean ====
section
/-! SUPPORT. Statements about every command as syntax, one lemma a constructor. -/

namespace Sys2Proof.Laws

/-- The command's word is well formed and is a word of spec/opcode_table.json that the decoder reads as the
command (R70, R72, R73, R75). -/
def TableWord.Statement (i : Instr) : Prop :=
  CommandWord.wf (encode i) = true ∧ decodeTableWord 32 (encode i).toNat = some i

theorem TableWord.nop : TableWord.Statement .nop := by unfold TableWord.Statement; decide
theorem TableWord.crcByte : TableWord.Statement .crcByte := by unfold TableWord.Statement; decide
theorem TableWord.crcBuf : TableWord.Statement .crcBuf := by unfold TableWord.Statement; decide
theorem TableWord.brConfig : TableWord.Statement .brConfig := by unfold TableWord.Statement; decide
theorem TableWord.brWrite : TableWord.Statement .brWrite := by unfold TableWord.Statement; decide
theorem TableWord.brRead : TableWord.Statement .brRead := by unfold TableWord.Statement; decide
theorem TableWord.dtStart : TableWord.Statement .dtStart := by unfold TableWord.Statement; decide
theorem TableWord.dtRead : TableWord.Statement .dtRead := by unfold TableWord.Statement; decide
theorem TableWord.dtDecode : TableWord.Statement .dtDecode := by unfold TableWord.Statement; decide
theorem TableWord.btProbe : TableWord.Statement .btProbe := by unfold TableWord.Statement; decide
theorem TableWord.btRead : TableWord.Statement .btRead := by unfold TableWord.Statement; decide
theorem TableWord.btDecode : TableWord.Statement .btDecode := by unfold TableWord.Statement; decide
theorem TableWord.lxInit : TableWord.Statement .lxInit := by unfold TableWord.Statement; decide
theorem TableWord.lxRead : TableWord.Statement .lxRead := by unfold TableWord.Statement; decide
theorem TableWord.lxDecode : TableWord.Statement .lxDecode := by unfold TableWord.Statement; decide

end Sys2Proof.Laws
end

