-- ==== Sys2Proof/Laws/Step.lean ====
section
/-! SUPPORT. What one step can do, and how runs are put together. -/

namespace Sys2Proof.Machine

variable {s t : State}

/-- Every step is a move of the host, of the engine or of the platform's reset, in the state less the
turn it uses up (R20, R61, R190). -/
theorem step_cases (h : step s = .next t) :
    ∃ r : State, (r = s ∨ ∃ rest, r = s.setEnv { s.env with turns := rest }) ∧
      (t = hostStep r ∨ engineStep r = .next t ∨ t = resetEngine r) := by
  unfold step at h
  have key : ∀ (r : State) (u : Turn), takeTurn u r = .next t →
      t = hostStep r ∨ engineStep r = .next t ∨ t = resetEngine r := by
    intro r u hu
    cases u
    · exact .inl (by simpa [takeTurn] using hu.symm)
    · exact .inr (.inl hu)
    · exact .inr (.inr (by simpa [takeTurn] using hu.symm))
  split at h
  · exact ⟨s, .inl rfl, key _ _ h⟩
  · exact ⟨_, .inr ⟨_, rfl⟩, key _ _ h⟩

/-- An engine step: nothing while idle, the failure completion of a word that is no command, or a step of
the latched command (R35, R71, R72, R75). -/
theorem engineStep_cases (h : engineStep s = .next t) :
    (s.seq = .idle ∧ t = s) ∨
      (∃ c p r, s.seq = .run c p ∧ decodeWord c = .error r ∧ t = raiseIllegalWord s) ∨
      ∃ c p i, s.seq = .run c p ∧ decodeWord c = .ok i ∧ exec i s = .next t := by
  unfold engineStep at h
  split at h
  · exact .inl ⟨‹_›, by simpa using h.symm⟩
  · rename_i c p hs
    split at h
    · exact .inr (.inr ⟨c, p, _, hs, ‹_›, h⟩)
    · exact .inr (.inl ⟨c, p, _, hs, ‹_›, by simpa using h.symm⟩)

/-- While a command runs and no turn is scripted, the step is the command's meaning. -/
theorem step_eq_exec {c : Word} {p : Pos} {i : Instr} (hs : s.seq = .run c p) (hi : decodeWord c = .ok i)
    (ht : s.env.turns = []) : step s = exec i s := by
  simp [step, ht, defaultTurn, hs, Seq.running, takeTurn, engineStep, hi]

@[simp] theorem steps_zero (s : State) : steps 0 s = .next s := rfl

/-- One step of a run. -/
theorem steps_succ (k : Nat) (h : step s = .next t) : steps (k + 1) s = steps k t := by
  simp [steps, h]

/-- A run in two parts. -/
theorem steps_add (j k : Nat) : ∀ {s t : State}, steps j s = .next t → steps (j + k) s = steps k t := by
  induction j with
  | zero => intro s t h; cases h; simp
  | succ j ih =>
    intro s t h
    rw [Nat.add_right_comm]
    cases hu : step s with
    | next u => simp only [steps, hu] at h ⊢; exact ih h
    | fault r => simp [steps, hu] at h
    | refused r => simp [steps, hu] at h

/-- What one step of a command that is one frame can be (R13): its start, a primitive of the frame, the
frame's return handed to `onReturn`, or the frame's failure raised. -/
theorem frameCommand_cases {p : Params} {i : Instr} {f : State → Frame}
    {onReturn : State → List Byte → State} (h : frameCommand p i f onReturn s = .next t) :
    ∃ c pos, s.seq = .run c pos ∧
      ((pos.point = .start ∧ t = checked p i frameStart s) ∨
        (pos.point ≠ .start ∧ ∃ r, frameStep p (f s) pos.point s = some r ∧
          ((r = .issued t) ∨ (∃ u d, r = .returned u d ∧ t = onReturn u d) ∨
            ∃ u e, r = .raised u e ∧ t = raise i e u))) := by
  obtain ⟨c, pos, hs, hk⟩ := (atPlace_next_iff _).1 h
  refine ⟨c, pos, hs, ?_⟩
  split at hk
  · rename_i hp
    exact .inl ⟨hp, by simpa using hk.symm⟩
  · rename_i hp
    obtain ⟨r, hr, rfl⟩ := Option.map_eq_some_iff.1 hk
    refine .inr ⟨fun h0 => hp h0, r, hr, ?_⟩
    cases r with
    | issued u => exact .inl rfl
    | returned u d => exact .inr (.inl ⟨u, d, rfl, rfl⟩)
    | raised u e => exact .inr (.inr ⟨u, e, rfl, rfl⟩)

end Sys2Proof.Machine
end

