-- ==== Sys2Proof/Tests/Slice0.lean ====
section
/-! SUPPORT. Tests with values from spec/ (mostly spec/95_test_vectors.md), and, for each obligation with
hypotheses, a witness that meets them. -/

namespace Sys2Proof.Tests

open Sys2Proof Sys2Proof.Machine

/-! ## Well-formedness: each check refuses an ill-formed term -/

/-- The test parameters TP1 and the "gk" defaults (spec/95_test_vectors.md section 8): values for tests
only. P_CRC8 is left at a stub. -/
def tp1 : Params :=
  { (default : Params) with
    retry := 100, opcWr := 0x4B#8, opcWrRd := 0x2D#8, opcCfg := 0xD2#8, speedByte := fun s => s.setWidth 8
    stCrcBit := 0, dtCmdConvert := 0x44#8, dtCmdReadSp := 0xBE#8, btAddr := 0x18#7, btRegTa := 0x05#8
    btRegMfr := 0x06#8, btRegDev := 0x07#8, btMfrId := 0x0054#16, btDevId := 0x0400#16, lxAddr := 0x10#7
    lxRegCfg := 0x00#8, lxRegData := 0x04#8, lxOrder := .le
    lxCfgVal := fun g t => [BitVec.ofNat 8 t, BitVec.ofNat 8 g]
    gainLut := [1, 2, 4, 8], itLut := [1, 2, 4, 8, 16, 32, 64], gselRst := 1#3, iselRst := 3#3 }

theorem test_tp1_is_well_formed : tp1.wf = true := by decide
theorem test_empty_table_refused : { tp1 with gainLut := [] }.wf = false := by decide
theorem test_nine_entries_refused : { tp1 with itLut := [1, 2, 4, 8, 1, 1, 1, 1, 1] }.tableSizesOk = false := by
  decide
theorem test_zero_entry_refused : { tp1 with gainLut := [0, 2] }.entriesPositive = false := by decide
theorem test_large_factor_refused : { tp1 with gainLut := [1, 2, 1821] }.factorBounded = false := by decide
theorem test_default_gain_refused : { tp1 with gselRst := 0#3 }.defaultGainOk = false := by decide
theorem test_default_time_refused : { tp1 with iselRst := 7#3 }.defaultTimeOk = false := by decide
theorem test_empty_payload_refused : { tp1 with lxCfgVal := fun _ _ => [] }.cfgValOk = false := by decide
theorem test_crc_bit_refused : { tp1 with stCrcBit := 8 }.crcBitOk = false := by decide

/-- W CMD, 0x00000112: reserved bits (95_test_vectors section 7). -/
theorem test_reserved_bits_refused :
    CommandWord.reservedClear 0x112#32 = false ∧ CommandWord.wf 0x112#32 = false ∧
      decodeWord 0x112#32 = .error (.reservedBits 0x112#32) := by decide

/-- The ends of the ranges of R75, and 0x03 of 95_test_vectors section 7. -/
theorem test_undefined_opcodes_refused :
    ∀ w ∈ [0x03, 0x0F, 0x13, 0x1F, 0x23, 0x2F, 0x33, 0x3F, 0x43, 0xFF],
      CommandWord.opcodeDefined (BitVec.ofNat 32 w) = false ∧
        decodeWord (BitVec.ofNat 32 w) = .error (.undefinedOpcode (BitVec.ofNat 8 w)) := by decide

theorem test_short_word_refused : decodeBytes [0x11#8, 0#8, 0#8] = .error (.truncated 3) := by decide

/-! ## Decoding: every row of R73, written out bit by bit -/

theorem test_decode_nop : decodeTableWord 32 0b00000000000000000000000000000000 = some .nop := by decide
theorem test_decode_crcByte : decodeTableWord 32 0b00000000000000000000000000000001 = some .crcByte := by decide
theorem test_decode_crcBuf : decodeTableWord 32 0b00000000000000000000000000000010 = some .crcBuf := by decide
theorem test_decode_brConfig : decodeTableWord 32 0b00000000000000000000000000010000 = some .brConfig := by decide
theorem test_decode_brWrite : decodeTableWord 32 0b00000000000000000000000000010001 = some .brWrite := by decide
theorem test_decode_brRead : decodeTableWord 32 0b00000000000000000000000000010010 = some .brRead := by decide
theorem test_decode_dtStart : decodeTableWord 32 0b00000000000000000000000000100000 = some .dtStart := by decide
theorem test_decode_dtRead : decodeTableWord 32 0b00000000000000000000000000100001 = some .dtRead := by decide
theorem test_decode_dtDecode : decodeTableWord 32 0b00000000000000000000000000100010 = some .dtDecode := by decide
theorem test_decode_btProbe : decodeTableWord 32 0b00000000000000000000000000110000 = some .btProbe := by decide
theorem test_decode_btRead : decodeTableWord 32 0b00000000000000000000000000110001 = some .btRead := by decide
theorem test_decode_btDecode : decodeTableWord 32 0b00000000000000000000000000110010 = some .btDecode := by decide
theorem test_decode_lxInit : decodeTableWord 32 0b00000000000000000000000001000000 = some .lxInit := by decide
theorem test_decode_lxRead : decodeTableWord 32 0b00000000000000000000000001000001 = some .lxRead := by decide
theorem test_decode_lxDecode : decodeTableWord 32 0b00000000000000000000000001000010 = some .lxDecode := by decide

/-! ## The functions: 95_test_vectors sections 2 to 6 -/

/-- Section 2.1. -/
theorem test_crc16_of_one_byte : crc16 0x0000#16 [0x01#8] = 0xC0C1#16 ∧ crc16 0xFFFF#16 [0xFF#8] = 0x00FF#16 := by
  decide

/-- Section 2.1: "123456789". -/
theorem test_crc16_check_value : crc16 0x0000#16
    [0x31#8, 0x32#8, 0x33#8, 0x34#8, 0x35#8, 0x36#8, 0x37#8, 0x38#8, 0x39#8] = 0xBB3D#16 := by decide +kernel

/-- Section 3.1, first row: the checksum and the trailer of a write frame. -/
theorem test_write_frame :
    (writeFrame tp1 0#2 0x18#7 0x01#8 [0x00#8, 0x20#8]).chunks =
      [[0x4B#8, 0x30#8], [0x03#8, 0x01#8], [0x00#8, 0x20#8]] ∧
    crc16 0x0000#16 [0x4B#8, 0x30#8, 0x03#8, 0x01#8, 0x00#8, 0x20#8] = 0xE31F#16 ∧
    trailer 0xE31F#16 = [0xE0#8, 0x1C#8] := by decide +kernel

/-- Section 3.1, last row: the read frame. -/
theorem test_read_frame :
    (readFrame tp1 0#2 0x50#7 0x00#8 16).chunks = [[0x2D#8, 0xA0#8, 0x01#8], [0x00#8], [0x10#8]] ∧
    crc16 0x0000#16 [0x2D#8, 0xA0#8, 0x01#8, 0x00#8, 0x10#8] = 0x0ADE#16 := by decide +kernel

/-- Section 3.2. -/
theorem test_status_check :
    statusCheck tp1 ⟨0x00#8, 0x00#8⟩ = none ∧ statusCheck tp1 ⟨0x03#8, 0x00#8⟩ = some .checksumError ∧
    statusCheck tp1 ⟨0x02#8, 0x00#8⟩ = some .busError ∧ statusCheck tp1 ⟨0x00#8, 0x01#8⟩ = some .busError ∧
    statusCheck tp1 ⟨0x01#8, 0xFF#8⟩ = some .checksumError := by decide

/-- Section 4.1: the ends of the range, the asymmetric rounding and the signs. -/
theorem test_dt_conv :
    dtConv 0x0178#16 = some 235 ∧ dtConv 0x0191#16 = some 251 ∧ dtConv 0xFE6F#16 = some (-250) ∧
    dtConv 0xFFFF#16 = some 0 ∧ dtConv 0xFF5E#16 = some (-101) ∧ dtConv 0x07D0#16 = some 1250 ∧
    dtConv 0x07D1#16 = none ∧ dtConv 0xFC8F#16 = some (-550) ∧ dtConv 0xFC8E#16 = none ∧
    dtConv 0x8000#16 = none := by decide

/-- Section 5.1. -/
theorem test_bt_conv :
    btConv 0x00A0#16 = 100 ∧ btConv 0x10A0#16 = -2460 ∧ btConv 0x1F90#16 = -70 ∧ btConv 0x01F4#16 = 312 ∧
    btConv 0x1001#16 = -2560 ∧ btConv 0xE190#16 = 250 ∧ btConv 0xFFFF#16 = -1 := by decide

/-- Section 6.1. -/
theorem test_lx_conv :
    lxConv 100#16 576 = 57 ∧ lxConv 1736#16 576 = 999 ∧ lxConv 1737#16 576 = 1000 ∧
    lxConv 65535#16 65520 = 4293853 ∧ lxFactor tp1 3 6 = some 18432 ∧ lxFactor tp1 4 0 = none := by decide

/-! ## One step of each command, on a small state -/

/-- A state that runs command `i` at a place, all else as `s`. -/
def at_ (i : Instr) (pt : Point) (s : State := State.reset) (held : Option (List Byte) := none) : State :=
  { s with cmd := encode i, status := ⟨true, false, 0#3, false⟩, seq := .run (encode i) ⟨pt, held⟩ }

/-- Reset under TP1's selection and with some operands: ADDR 0x18, REG 0x01, LEN 2, BUF = 00 20. -/
def base : State :=
  { State.reset with cfg := ⟨1#2, 1#3, 3#3⟩, xfer := ⟨0x18#7, 0x01#8, 2#5⟩, buf := [(1, 0x20#8)] }

/-- One field of the state a step leads to. -/
def after {α : Type} (f : State → α) : Host.Outcome State Fault Refusal → Option α
  | .next t => some (f t)
  | .fault _ => none
  | .refused _ => none

/-- What the bus answers next. -/
def answering (s : State) (a : BusAnswer) : State := { s with env := { s.env with answers := [a] } }

/-- Section 2.3: NOP clears STATUS 0x0A; CRC_BYTE ignores DATA[15:8]; CRC_BUF with LEN 0 and 17. -/
theorem test_nop : after (fun t => t.status.word) (execNop (at_ .nop .start)) = some 0#32 := by decide
theorem test_crcByte :
    after State.acc (execCrcByte (at_ .crcByte .start { base with data := 0xAB80#16 })) = some 0xA001#16 := by decide
theorem test_crcBuf_empty :
    after (fun t => (t.acc, t.status.word)) (execCrcBuf (at_ .crcBuf .start
      { base with acc := 0x1234#16, xfer := ⟨0#7, 0#8, 0#5⟩ })) = some (0x1234#16, 0#32) := by decide
theorem test_crcBuf_too_long :
    after (fun t => (t.acc, t.status.word)) (execCrcBuf (at_ .crcBuf .start
      { base with acc := 0x1234#16, xfer := ⟨0#7, 0#8, 17#5⟩ })) = some (0x1234#16, 0x1A#32) := by decide

/-- Section 3.5: the byte BR_CONFIG sends, and SPEED 3. -/
theorem test_brConfig :
    after (fun t => t.env.events) (brConfig tp1 (answering (at_ .brConfig (.selected true) base) .yes)) =
      some [.write [0xD2#8, 0x01#8] true] := by decide
theorem test_brConfig_speed3 :
    after (fun t => (t.status.word, t.env.events)) (brConfig tp1 (at_ .brConfig .start
      { base with cfg := ⟨3#2, 1#3, 3#3⟩ })) = some (0x1A#32, []) := by decide

/-- Section 3.4: a failing second write leaves its bytes folded. -/
theorem test_brWrite_failing_write :
    after (fun t => (t.acc, t.seq)) (brWrite tp1 (answering
      (at_ .brWrite (.sent 1 true) { base with acc := 0xE436#16 }) ⟨false, false, []⟩)) =
      some (0xDBD6#16, .run 0x11#32 ⟨.sent 2 false, none⟩) := by decide +kernel
/-- Section 3.3: the last sample of the budget was 1. -/
theorem test_brWrite_timeout :
    after (fun t => t.status.word) (brWrite tp1 (at_ .brWrite (.sleptRetry 0) base)) = some 0x0E#32 := by decide

/-- Program P2: the failing read, and the payload of the good one. -/
theorem test_brRead_status :
    after (fun t => (t.status.word, t.brstat.word))
      (brRead tp1 (at_ .brRead (.gotStatus (some [0x01#8, 0x00#8])) base)) = some (0x0A#32, 1#32) := by decide
theorem test_brRead_payload :
    after (fun t => (bufWord t.buf 0, t.status.word))
      (brRead tp1 (at_ .brRead (.gotPayload (some [0xC1#8, 0x90#8])) base)) = some (0x90C1#32, 0#32) := by decide

/-- Section 4.3. -/
theorem test_dtStart :
    after (fun t => t.env.events) (dtStart tp1 (answering (at_ .dtStart (.selected true) base) .yes)) =
      some [.write [0x44#8] true] := by decide
theorem test_dtRead_range :
    after (fun t => (t.status.word, t.result, bufWord t.buf 0))
      (dtRead { tp1 with crc8 := fun _ => 0#8 } (at_ .dtRead
        (.gotPayload (some [0xD1#8, 0x07#8, 0x4B#8, 0x46#8, 0#8, 0#8, 0#8, 0#8, 0#8])) base)) =
      some (0x12#32, 0#32, 0x464B07D1#32) := by decide
theorem test_dtRead_checksum :
    after (fun t => (t.status.word, t.result))
      (dtRead { tp1 with crc8 := fun _ => 0x5E#8 } (at_ .dtRead
        (.gotPayload (some [0x78#8, 0x01#8, 0#8, 0#8, 0#8, 0#8, 0#8, 0#8, 0#8])) base)) =
      some (0x0A#32, 0#32) := by decide
theorem test_dtDecode :
    after (fun t => t.result) (execDtDecode (at_ .dtDecode .start { base with data := 0xFF5E#16 })) =
      some 0xFFFFFF9B#32 := by decide

/-- Section 5.2: a mismatch, and a failed select. -/
theorem test_btProbe_mismatch :
    after (fun t => (t.result, t.status.word)) (btProbe tp1 (at_ .btProbe (.gotPayload (some [0x04#8, 0x01#8]))
      base (some [0x00#8, 0x54#8]))) = some (0#32, 0x14#32) := by decide
theorem test_btProbe_match :
    after (fun t => (t.result, t.status.word)) (btProbe tp1 (at_ .btProbe (.gotPayload (some [0x04#8, 0x00#8]))
      base (some [0x00#8, 0x54#8]))) = some (1#32, 0#32) := by decide

/-- Section 5.3. -/
theorem test_btRead :
    after (fun t => t.result) (btRead tp1 (at_ .btRead (.gotPayload (some [0x1F#8, 0x90#8])) base)) =
      some 0xFFFFFFBA#32 := by decide
theorem test_btDecode :
    after (fun t => t.result) (execBtDecode (at_ .btDecode .start { base with data := 0x10A0#16 })) =
      some 0xFFFFF664#32 := by decide

/-- Section 6.3, and the frame of section 3.1. -/
theorem test_lxInit :
    (lxInitFrame tp1 base).chunks = [[0x4B#8, 0x20#8], [0x03#8, 0x00#8], [0x03#8, 0x01#8]] := by decide
theorem test_lxRead :
    after (fun t => t.result) (lxRead tp1 (at_ .lxRead (.gotPayload (some [0x64#8, 0x00#8])) base)) =
      some 57#32 := by decide
theorem test_lxRead_be :
    lxRaw { tp1 with lxOrder := .be } [0x64#8, 0x00#8] = 0x6400#16 := by decide
theorem test_lxDecode :
    after (fun t => t.result) (lxDecode tp1 (at_ .lxDecode .start
      { base with data := 0xFFFF#16, cfg := ⟨3#2, 3#3, 6#3⟩ })) = some 1207941#32 := by decide
theorem test_lxDecode_outside :
    after (fun t => (t.result, t.status.word)) (lxDecode tp1 (at_ .lxDecode .start
      { base with result := 9#32, cfg := ⟨0#2, 4#3, 0#3⟩ })) = some (9#32, 0x1A#32) := by decide

/-! ## The host's accesses: 95_test_vectors section 7 -/

theorem test_write_xfer : readValue 0x14#8 (hostWrite 0x14#8 0xFFFFFFFF#32 base) = 0x001FFF7F#32 := by decide
theorem test_write_cfg : readValue 0x1C#8 (hostWrite 0x1C#8 0xFFFFFFFF#32 base) = 0x00000773#32 := by decide
theorem test_write_unmapped : hostWrite 0x41#8 5#32 base = base ∧ readValue 0x28#8 base = 0#32 := ⟨rfl, rfl⟩
theorem test_write_busy :
    (hostWrite 0x18#8 1#32 (at_ .nop .start)).data = 0#16 ∧
    (hostWrite 0x18#8 1#32 (at_ .nop .start)).status.word = 0x101#32 := by decide
theorem test_wign_clear :
    (hostWrite 0x04#8 0x100#32 { base with status := ⟨true, false, 0#3, true⟩ }).status.wign = false ∧
    (hostWrite 0x04#8 0xFFFFFEFF#32 { base with status := ⟨true, false, 0#3, true⟩ }).status.wign = true := by
  decide
theorem test_device_id :
    { base with devidLo := 0x03020119#32, devidHi := 0xA7060504#32 }.deviceId =
      [0x19#8, 0x01#8, 0x02#8, 0x03#8, 0x04#8, 0x05#8, 0x06#8, 0xA7#8] := by decide
theorem test_wbuf : progWbuf [0x31#8, 0x32#8, 0x33#8, 0x34#8, 0x39#8] =
    [.write 0x40#8 0x34333231#32, .write 0x44#8 0x00000039#32] := by decide

/-! ## Witnesses: for each obligation with hypotheses, concrete values that meet them, clause by clause -/

/-- A state that runs a word that is no command. -/
def runningWord (w : Word) : State :=
  { State.reset with cmd := w, status := ⟨true, false, 0#3, false⟩, seq := .run w ⟨.start, none⟩ }

/-- A state with scripted turns. -/
def turning (s : State) (l : List Turn) : State := { s with env := { s.env with turns := l } }

/-- A state in which the bus answers as listed. -/
def script (s : State) (l : List BusAnswer) : State := { s with env := { s.env with answers := l } }

/-- `base` with another LEN. -/
def withLen (n : Nat) : State := { base with xfer := ⟨0x18#7, 0x01#8, BitVec.ofNat 5 n⟩ }

/-- The identification of a frame's command at a place of `base`. -/
def wFrame (i : Instr) (pt : Point) : Prop :=
  (at_ i pt base).seq = .run (encode i) ⟨pt, none⟩ ∧ ∃ f, frameOf Config.params i (at_ i pt base) none = some f

theorem witness_DecodeInvertsEncode :
    decodeBytes (0x42#8 :: 0#8 :: 0#8 :: 0#8 :: [0xFF#8]) = .ok (.lxDecode, [0xFF#8]) := by decide

theorem witness_OnlyWellFormedWordsDecode :
    256 ≤ (0x100#32).toNat ∧
    ((0xFF#32).toNat < 256 ∧ CommandWord.opcodeDefined 0xFF#32 = false) ∧
    (0x00#32).toNat < 256 ∧ CommandWord.opcodeDefined 0x00#32 = true ∧
    (0x42#32).toNat < 256 ∧ CommandWord.opcodeDefined 0x42#32 = true := by decide

theorem witness_IllegalWords_reserved :
    (runningWord 0x100#32).seq = .run 0x100#32 ⟨.start, none⟩ ∧ (runningWord 0x100#32).env.turns = [] ∧
      256 ≤ (0x100#32).toNat := ⟨rfl, rfl, by decide⟩

theorem witness_IllegalWords_opcode :
    (runningWord 0x43#32).seq = .run 0x43#32 ⟨.start, none⟩ ∧ (runningWord 0x43#32).env.turns = [] ∧
      CommandWord.opcodeDefined 0x43#32 = false := ⟨rfl, rfl, by decide⟩

/-- LEN 17, LEN 0 and SPEED 3 are illegal; LEN 16 is legal. -/
theorem witness_ArgumentChecks :
    (at_ .crcBuf .start (withLen 17)).seq = .run 0x02#32 ⟨.start, none⟩ ∧
    argsIllegal Config.params .crcBuf (at_ .crcBuf .start (withLen 17)) = true ∧
    argsIllegal Config.params .brRead (at_ .brRead .start (withLen 0)) = true ∧
    argsIllegal Config.params .btRead (at_ .btRead .start { base with cfg := ⟨3#2, 1#3, 3#3⟩ }) = true ∧
    argsIllegal Config.params .crcBuf (at_ .crcBuf .start (withLen 16)) = false :=
  ⟨rfl, rfl, rfl, rfl, rfl⟩

/-- The reset selection is legal. -/
theorem reset_selection_legal (i : Instr) (pt : Point) :
    (at_ i pt).selectionIllegal Config.params = false := by
  have h := defaultSelection_inside
  exact Bool.or_eq_false_iff.2 ⟨decide_eq_false (Nat.not_le.2 h.1), decide_eq_false (Nat.not_le.2 h.2)⟩

theorem witness_BusCommandsStart :
    (at_ .brRead .start base).seq = .run 0x12#32 ⟨.start, none⟩ ∧
    argsIllegal Config.params .brRead (at_ .brRead .start base) = false ∧
    (at_ .lxRead .start).seq = .run 0x41#32 ⟨.start, none⟩ ∧
    argsIllegal Config.params .lxRead (at_ .lxRead .start) = false := by
  refine ⟨rfl, rfl, rfl, ?_⟩
  simp only [argsIllegal, reset_selection_legal, Bool.or_false]
  rfl

theorem witness_StepRunsTheDecodedCommand :
    (at_ .brRead (.sentTrailer true) base).seq = .run 0x12#32 ⟨.sentTrailer true, none⟩ ∧
    decodeWord 0x12#32 = .ok .brRead ∧ (at_ .brRead (.sentTrailer true) base).env.turns = [] ∧
    (turning (at_ .brRead (.sentTrailer true) base) [.engine]).env.turns = [.engine] :=
  ⟨rfl, by decide, rfl, rfl⟩

theorem witness_TurnsAreTaken :
    (turning base [.host]).env.turns = [.host] ∧ (base.env.turns = [] ∧ base.seq = .idle) ∧
    (turning base [.engine]).env.turns = [.engine] ∧ (turning base [.engine]).seq = .idle :=
  ⟨rfl, ⟨rfl, rfl⟩, rfl, rfl⟩

theorem witness_ResetEndsTheRunningCommand :
    (turning (at_ .btRead (.sampledRetry 7 (some true)) base) [.reset, .host]).env.turns = [.reset, .host] := rfl

theorem witness_IdleEngineIssuesNoPrimitive :
    State.reset.seq = .idle ∧ step State.reset = .next State.reset := ⟨rfl, rfl⟩

/-- An `exec` that answers a next state, by a completion and by a primitive: for
EngineStepIsOnePrimitiveOrCompletion, CommandsKeepTheirOperands and CodesOfEachCommand. -/
theorem witness_exec_completes : ∃ t, exec .nop (at_ .nop .start) = .next t ∧ t.seq = .idle := ⟨_, rfl, rfl⟩
theorem witness_exec_issues :
    ∃ t, exec .dtStart (at_ .dtStart (.selected true)) = .next t ∧ t.seq ≠ .idle :=
  ⟨_, rfl, by intro h; cases h⟩

theorem witness_CmdWriteStartsACommand :
    State.reset.status.busy = false ∧ (at_ .nop .start).status.busy = true := ⟨rfl, rfl⟩

/-- A misaligned offset, and the aligned ones about the gaps of the map. -/
theorem witness_UnmappedAccesses :
    (0x41#8).toNat % 4 ≠ 0 ∧ ∀ off ∈ [0x28#8, 0x3C#8, 0x50#8, 0xFC#8], off.toNat ∉ [0x00, 0x04, 0x08, 0x0C,
      0x10, 0x14, 0x18, 0x1C, 0x20, 0x24, 0x40, 0x44, 0x48, 0x4C] := by decide

theorem witness_WritesWhileBusyAreDropped :
    (at_ .nop .start).status.busy = true ∧
    (∀ off ∈ [0x00#8, 0x08#8, 0x1C#8, 0x40#8, 0x4C#8], off.toNat ∈
      [0x00, 0x08, 0x0C, 0x10, 0x14, 0x18, 0x1C, 0x40, 0x44, 0x48, 0x4C]) ∧
    (0x04#8).toNat = 0x04 ∧
    ∀ off ∈ [0x20#8, 0x24#8, 0x28#8, 0x01#8], off.toNat ∉
      [0x00, 0x04, 0x08, 0x0C, 0x10, 0x14, 0x18, 0x1C, 0x40, 0x44, 0x48, 0x4C] := by
  refine ⟨rfl, ?_⟩
  decide

theorem witness_ReadsWhileBusy : (at_ .crcBuf .start base).status.busy = true := rfl
theorem witness_ReadsWhileIdle : base.status.busy = false := rfl
theorem witness_WritesWhileIdle : base.status.busy = false ∧ base.buf.wf := ⟨rfl, by decide⟩

/-- `base` with the program of a WBUF. -/
def filling (l : List Byte) : State := { base with env := { Env.empty with host := progWbuf l } }

theorem witness_WbufFillsTheBuffer :
    ∀ l ∈ [[0xAA#8], List.replicate 16 0xAA#8], 1 ≤ l.length ∧ l.length ≤ 16 ∧
      (filling l).status.busy = false ∧ (filling l).buf.wf ∧ (filling l).seq = .idle ∧
      (filling l).env.turns = [] ∧ (filling l).env.host = progWbuf l := by
  intro l hl
  have h : 1 ≤ l.length ∧ l.length ≤ 16 := by revert l; decide
  exact ⟨h.1, h.2, rfl, by show base.buf.wf; decide, rfl, rfl, rfl⟩

theorem witness_OnlyTheListedCommandsWrite :
    ∃ t, exec .lxDecode (at_ .lxDecode .start) = .next t := ⟨_, rfl⟩

theorem witness_ReadingCommandsStore :
    (∃ t, exec .brRead (at_ .brRead (.gotPayload (some [0xC1#8, 0x90#8])) base) = .next t) ∧
    (at_ .brRead (.gotPayload (some [0xC1#8, 0x90#8])) base).buf.wf ∧
    (∃ t, exec .dtRead (at_ .dtRead (.sent 1 true) base) = .next t) ∧
    ∀ c d held, (at_ .dtRead (.sent 1 true) base).seq ≠ .run c ⟨.gotPayload (some d), held⟩ :=
  ⟨⟨_, rfl⟩, by show base.buf.wf; decide, ⟨_, rfl⟩, by intro c d held h; injection h with _ h; cases h⟩

theorem witness_FailureCompletion :
    ∃ t, exec .dtDecode (at_ .dtDecode .start { base with data := 0x07D1#16 }) = .next t ∧ t.seq = .idle ∧
      t.status.err = true := ⟨_, rfl, rfl, rfl⟩

/-- The start of the commands with no bus primitive: for NopCompletes, CrcByteCompletes, DtDecodeCompletes and
BtDecodeCompletes. -/
theorem witness_single_step_commands :
    ∀ i ∈ [Instr.nop, .crcByte, .dtDecode, .btDecode],
      (at_ i .start base).seq = .run (encode i) ⟨.start, none⟩ := by decide

theorem witness_CrcBufCompletes :
      (∀ n ∈ [0, 16], (at_ .crcBuf .start (withLen n)).seq = .run 0x02#32 ⟨.start, none⟩ ∧
      (at_ .crcBuf .start (withLen n)).xfer.len.toNat ≤ 16) ∧
    16 < (at_ .crcBuf .start (withLen 17)).xfer.len.toNat := by decide

theorem witness_BrConfigCompletes :
    let s := script (at_ .brConfig .start base) [.yes, .yes]
    (at_ .brConfig (.selected true)).seq = .run 0x10#32 ⟨.selected true, none⟩ ∧
    (at_ .brConfig (.sent 1 true)).seq = .run 0x10#32 ⟨.sent 1 true, none⟩ ∧
    s.runsAt .brConfig .start none ∧ s.env.turns = [] ∧ s.cfg.speed ≠ 3#2 ∧
    s.env.answers = .yes :: .yes :: [] := ⟨rfl, rfl, rfl, rfl, by decide, rfl⟩

/-- Each clause: the first bytes, later ones (the second, the last), and the trailer. -/
theorem witness_FramesSendWhatTheyFold :
    frameOf Config.params .brRead base none = some (brReadFrame Config.params base) ∧
    (at_ .brRead (.selected true) base).seq = .run 0x12#32 ⟨.selected true, none⟩ ∧
    (brReadFrame Config.params base).chunks[0]? = some [Config.params.opcWrRd, 0x30#8, 0x01#8] ∧
    (at_ .brRead (.sent 1 true) base).seq = .run 0x12#32 ⟨.sent 1 true, none⟩ ∧
    (brReadFrame Config.params base).chunks[1]? = some [0x01#8] ∧
    (brReadFrame Config.params base).chunks[2]? = some [0x02#8] ∧
    (brReadFrame Config.params base).chunks.length = 3 ∧
    (brWriteFrame Config.params (withLen 0)).chunks.length = 2 ∧
    (at_ .brRead (.sent 3 true) base).seq = .run 0x12#32 ⟨.sent 3 true, none⟩ :=
  ⟨rfl, rfl, rfl, rfl, rfl, rfl, rfl, rfl, rfl⟩

theorem witness_CompletionPoll :
    wFrame .brRead (.sentTrailer true) ∧ wFrame .brRead (.sampledFirst (some false)) ∧
    wFrame .brRead (.sampledRetry 0 (some false)) ∧ wFrame .brRead (.sampledFirst (some true)) ∧
    wFrame .brRead (.sleptExpected 1) ∧ wFrame .brRead (.sleptExpected 0) ∧
    wFrame .brRead (.sampledRetry 99 (some true)) ∧ wFrame .brRead (.sleptRetry 1) ∧
    wFrame .brRead (.sleptRetry 0) ∧ wFrame .btProbe (.sentTrailer true) :=
  ⟨⟨rfl, _, rfl⟩, ⟨rfl, _, rfl⟩, ⟨rfl, _, rfl⟩, ⟨rfl, _, rfl⟩, ⟨rfl, _, rfl⟩, ⟨rfl, _, rfl⟩, ⟨rfl, _, rfl⟩,
    ⟨rfl, _, rfl⟩, ⟨rfl, _, rfl⟩, ⟨rfl, _, rfl⟩⟩

/-- The place of each failed primitive. -/
theorem witness_FailedPrimitive :
    (∀ pt ∈ [Point.selected false, .sent 1 false, .gotPayload none],
      (at_ .dtRead pt base).seq = .run 0x21#32 ⟨pt, none⟩) ∧
    ∀ pt ∈ [Point.selected false, .sent 1 false, .sent 4 false, .sentTrailer false, .sampledFirst none,
      .sampledRetry 0 none, .gotStatus none, .gotPayload none],
      (at_ .btRead pt base).seq = .run 0x31#32 ⟨pt, none⟩ := ⟨fun _ _ => rfl, fun _ _ => rfl⟩

theorem witness_StatusBytesDecide :
    (at_ .brRead (.gotStatus (some [0x00#8, 0x01#8])) base).seq =
      .run 0x12#32 ⟨.gotStatus (some [0x00#8, 0x01#8]), none⟩ ∧ ¬((0x00#8 = 0x00#8) ∧ (0x01#8 = 0x00#8)) ∧
    (at_ .lxRead (.gotStatus (some [0x00#8, 0x00#8]))).seq =
      .run 0x41#32 ⟨.gotStatus (some [0x00#8, 0x00#8]), none⟩ ∧
    (at_ .btProbe (.gotStatus (some [0x00#8, 0x00#8])) base (some [0x00#8, 0x54#8])).seq =
      .run 0x30#32 ⟨.gotStatus (some [0x00#8, 0x00#8]), some [0x00#8, 0x54#8]⟩ := ⟨rfl, by decide, rfl, rfl⟩

/-- The state a run of `i` starts from. -/
theorem witness_run (i : Instr) (s : State) (l : List BusAnswer) (h : s.env.turns = []) :
    (script (at_ i .start s) l).runsAt i .start none ∧ (script (at_ i .start s) l).env.turns = [] ∧
      (script (at_ i .start s) l).env.answers = l := ⟨rfl, h, rfl⟩

theorem witness_BrWriteCompletes :
    (at_ .brWrite (.gotStatus (some [0x00#8, 0x00#8])) base).seq =
      .run 0x11#32 ⟨.gotStatus (some [0x00#8, 0x00#8]), none⟩ ∧
    ∀ n ∈ [0, 1, 16],
      let s := script (at_ .brWrite .start (withLen n))
        (List.replicate (1 + if n = 0 then 3 else 4) .yes ++ [.sample false, .got [0x00#8, 0x00#8]] ++ [])
      s.runsAt .brWrite .start none ∧ s.env.turns = [] ∧ s.xfer.len.toNat = n ∧ n ≤ 16 ∧ s.cfg.speed ≠ 3#2 ∧
      s.env.answers = List.replicate (1 + if s.xfer.len.toNat = 0 then 3 else 4) .yes ++
        [.sample false, .got [0x00#8, 0x00#8]] ++ [] := by
  refine ⟨rfl, ?_⟩
  unfold State.runsAt
  decide

theorem witness_BrReadCompletes :
    (at_ .brRead (.gotPayload (some [0xC1#8, 0x90#8])) base).seq =
      .run 0x12#32 ⟨.gotPayload (some [0xC1#8, 0x90#8]), none⟩ ∧
    [0xC1#8, 0x90#8].length = (at_ .brRead (.gotPayload (some [0xC1#8, 0x90#8])) base).xfer.len.toNat ∧
    ∀ n ∈ [1, 16],
      let d := List.replicate n 0x5A#8
      let s := script (at_ .brRead .start (withLen n)) ([.yes, .yes, .yes, .yes, .yes, .sample false,
        .got [0x00#8, 0x00#8], .got d] ++ [])
      s.runsAt .brRead .start none ∧ s.env.turns = [] ∧ 1 ≤ s.xfer.len.toNat ∧ s.xfer.len.toNat ≤ 16 ∧
      s.cfg.speed ≠ 3#2 ∧ d.length = s.xfer.len.toNat := by
  refine ⟨rfl, rfl, ?_⟩
  unfold State.runsAt
  decide

theorem witness_BusyBridgeIsAwaited :
    ∀ k ∈ [1, 100],
      let s := script (at_ .brWrite .start base) (List.replicate 5 .yes ++
        List.replicate k (.sample true) ++ [.sample false, .got [0x00#8, 0x00#8]] ++ [])
      s.runsAt .brWrite .start none ∧ s.env.turns = [] ∧ 1 ≤ s.xfer.len.toNat ∧ s.xfer.len.toNat ≤ 16 ∧
      s.cfg.speed ≠ 3#2 ∧ 1 ≤ k ∧ k ≤ Config.params.retry := by
  intro k hk
  refine ⟨rfl, rfl, by show 1 ≤ 2; decide, by show 2 ≤ 16; decide, by show 1#2 ≠ 3#2; decide, ?_⟩
  rw [params_retry]
  revert k
  decide

theorem witness_BusyBridgeTimesOut :
    let s := script (at_ .brRead .start base)
      (List.replicate 5 .yes ++ List.replicate 101 (.sample true) ++ [])
    s.runsAt .brRead .start none ∧ s.env.turns = [] ∧ 1 ≤ s.xfer.len.toNat ∧ s.xfer.len.toNat ≤ 16 ∧
      s.cfg.speed ≠ 3#2 ∧
      s.env.answers = List.replicate 5 .yes ++ List.replicate 101 (.sample true) ++ [] :=
  ⟨rfl, rfl, by show 1 ≤ 2; decide, by show 2 ≤ 16; decide, by show 1#2 ≠ 3#2; decide, rfl⟩

/-- A running command at a place of its own, with legal arguments, meets the invariant. -/
theorem inv_at (i : Instr) (pt : Point) (s : State) (held : Option (List Byte)) (hw : s.buf.wf)
    (hr : -2560 ≤ s.result.toInt ∧ s.result.toInt ≤ 4294836)
    (hb : i = .dtRead ∨ s.brstat = ⟨0x00#8, 0x00#8⟩)
    (hp : (pt = .start ∧ held = none) ∨ argsIllegal Config.params i (at_ i pt s held) = false ∧
      atLegalPlace Config.params i (at_ i pt s held) ⟨pt, held⟩) : Inv (at_ i pt s held) where
  busyIffRunning := rfl
  bufWf := hw
  codeLegal := by show (0#3 : BitVec 3) ≠ 7#3; decide
  errIffFailure := by show (false = true) ↔ _; simp [at_, codeNone]
  clearWhileBusy := fun _ => ⟨rfl, rfl⟩
  resultRange := hr
  latched := by
    intro c pos h
    injection h with hc hpos
    subst hc hpos
    refine ⟨rfl, ?_⟩
    rcases hp with ⟨rfl, rfl⟩ | h
    · exact .inl rfl
    · exact .inr ⟨i, by cases i <;> decide, h.1, h.2⟩
  zeroStatusBeforePayload := by
    intro c d held' h hne
    injection h with hc hpos
    subst hc
    rcases hb with rfl | hb
    · exact absurd (by decide) hne
    · exact hb

theorem witness_SuccessNeedsZeroStatus :
    let s := at_ .brRead (.gotPayload (some [0xC1#8, 0x90#8])) base
    Inv s ∧ s.seq.running = true ∧ decodeWord s.cmd = .ok .brRead ∧
    ∃ t, exec .brRead s = .next t ∧ t.seq = .idle ∧ t.status.err = false := by
  refine ⟨inv_at _ _ _ _ (by decide) (by decide) (.inr rfl) (.inr ⟨rfl, ?_⟩), rfl, by decide, _, rfl, rfl, rfl⟩
  refine ⟨fun l h => (by cases h), 2, rfl, ?_⟩
  intro l h
  cases h
  rfl

/-- The two bytes of a register in received order. -/
def bigEndian (v : Half) : List Byte := [v.extractLsb' 8 8, v.extractLsb' 0 8]

theorem btRaw_bigEndian (v : Half) : btRaw (bigEndian v) = v := by
  show v.extractLsb' 8 8 ++ v.extractLsb' 0 8 = v
  ext k hk
  simp only [BitVec.getElem_append, BitVec.getElem_extractLsb']
  split
  · simp [BitVec.getLsbD_eq_getElem, hk]
  · rw [Nat.add_sub_cancel' (by omega)]
    simp [BitVec.getLsbD_eq_getElem, hk]

/-- The clause of BT_PROBE: both registers match, whatever the parameters expect. -/
theorem witness_SuccessNeedsZeroStatus_probe :
    let s := at_ .btProbe (.gotPayload (some (bigEndian Config.params.btDevId))) base
      (some (bigEndian Config.params.btMfrId))
    Inv s ∧ s.seq.running = true ∧ decodeWord s.cmd = .ok .btProbe ∧
    ∃ t, exec .btProbe s = .next t ∧ t.seq = .idle ∧ t.status.code = 0#3 := by
  intro s
  refine ⟨inv_at _ _ _ _ (by decide) (by decide) (.inr rfl) (.inr ⟨rfl, ?_⟩), rfl, by decide, ?_⟩
  · refine ⟨fun l h => (by cases h; exact ⟨rfl, rfl⟩), 2, rfl, ?_⟩
    intro l h
    cases h
    rfl
  · refine ⟨probeVerdict Config.params (btRaw (bigEndian Config.params.btMfrId))
      (btRaw (bigEndian Config.params.btDevId)) (storePayload 2 (bigEndian Config.params.btDevId) s), rfl, ?_⟩
    rw [btRaw_bigEndian, btRaw_bigEndian, probeVerdict, if_pos ⟨rfl, rfl⟩]
    exact ⟨rfl, rfl⟩

theorem witness_ByteOrders : tp1.lxOrder = .le ∧ { tp1 with lxOrder := .be }.lxOrder = .be := ⟨rfl, rfl⟩

/-- The ends of both signs, and of the range check. -/
theorem witness_DirectConverter :
    0 ≤ (0x0000#16).toInt ∧ 0 ≤ (0x7FFF#16).toInt ∧ (0xFFFF#16).toInt < 0 ∧ (0x8000#16).toInt < 0 ∧
    dtConv 0x07D0#16 = some 1250 ∧ dtConv 0xFC90#16 = some (-550) := by decide

theorem witness_DtStartCompletes :
    let s := script (at_ .dtStart .start) [.yes, .yes]
    (at_ .dtStart (.selected true)).seq = .run 0x20#32 ⟨.selected true, none⟩ ∧
    (at_ .dtStart (.sent 1 true)).seq = .run 0x20#32 ⟨.sent 1 true, none⟩ ∧
    s.runsAt .dtStart .start none ∧ s.env.turns = [] ∧ s.env.answers = .yes :: .yes :: [] :=
  ⟨rfl, rfl, rfl, rfl, rfl⟩

theorem witness_DtReadCompletes :
    let d := [0xD0#8, 0x07#8, 0#8, 0#8, 0#8, 0#8, 0#8, 0#8, 0#8]
    (at_ .dtRead (.gotPayload (some d))).seq = .run 0x21#32 ⟨.gotPayload (some d), none⟩ ∧ d.length = 9 ∧
    (script (at_ .dtRead .start) [.yes, .yes, .got d]).runsAt .dtRead .start none ∧
    (script (at_ .dtRead .start) [.yes, .yes, .got d]).env.turns = [] ∧
    (script (at_ .dtRead .start) [.yes, .yes, .got d]).env.answers = .yes :: .yes :: .got d :: [] :=
  ⟨rfl, rfl, rfl, rfl, rfl⟩

theorem witness_DtDecodeCompletes :
    -550 ≤ dtValue 0xFC90#16 ∧ dtValue 0x07D0#16 ≤ 1250 ∧ -550 ≤ dtValue 0x07D0#16 ∧
    dtValue 0xFC90#16 ≤ 1250 ∧ dtValue 0xFC8E#16 < -550 ∧ 1250 < dtValue 0x07D1#16 := by decide

theorem witness_BtReadCompletes :
    let answers := [.yes, .yes, .yes, .yes, .yes, .sample false, .got [0x00#8, 0x00#8],
      .got [0xC1#8, 0x90#8]] ++ []
    let s := script (at_ .btRead .start base) answers
    (at_ .btRead (.gotPayload (some [0xC1#8, 0x90#8])) base).seq =
      .run 0x31#32 ⟨.gotPayload (some [0xC1#8, 0x90#8]), none⟩ ∧
    s.runsAt .btRead .start none ∧ s.env.turns = [] ∧ s.cfg.speed ≠ 3#2 ∧ s.env.answers = answers :=
  ⟨rfl, rfl, rfl, by show 1#2 ≠ 3#2; decide, rfl⟩

theorem witness_BtProbeCompletes :
    (at_ .btProbe (.gotPayload (some [0x04#8, 0x00#8])) base (some [0x00#8, 0x54#8])).seq =
      .run 0x30#32 ⟨.gotPayload (some [0x04#8, 0x00#8]), some [0x00#8, 0x54#8]⟩ ∧
    (at_ .btProbe (.gotPayload (some [0x00#8, 0x54#8])) base).seq =
      .run 0x30#32 ⟨.gotPayload (some [0x00#8, 0x54#8]), none⟩ ∧
    (∀ pt ∈ [Point.selected false, .sent 3 false, .sentTrailer false, .sampledFirst none,
      .sampledRetry 99 none, .sleptRetry 0, .gotStatus none, .gotPayload none],
      (at_ .btProbe pt base).seq = .run 0x30#32 ⟨pt, none⟩) ∧
    (at_ .btProbe (.gotStatus (some [0x01#8, 0x00#8])) base).seq =
      .run 0x30#32 ⟨.gotStatus (some [0x01#8, 0x00#8]), none⟩ ∧ ¬(0x01#8 = 0x00#8 ∧ 0x00#8 = 0x00#8) :=
  ⟨rfl, rfl, fun _ _ => rfl, rfl, by decide⟩

theorem witness_BtProbeMatches (l : List BusAnswer) :
    (script (at_ .btProbe .start base) l).runsAt .btProbe .start none ∧
    (script (at_ .btProbe .start base) l).env.turns = [] ∧
    (script (at_ .btProbe .start base) l).cfg.speed ≠ 3#2 ∧ (script (at_ .btProbe .start base) l).buf.wf ∧
    (script (at_ .btProbe .start base) l).env.answers = l :=
  ⟨rfl, rfl, by show 1#2 ≠ 3#2; decide, by show base.buf.wf; decide, rfl⟩

theorem witness_IlluminanceScaler :
    Config.params.gainLut[Config.params.gselRst.toNat]? = some 2 ∧
    Config.params.itLut[Config.params.iselRst.toNat]? = some 8 := ⟨defaultGain, defaultTime⟩

theorem witness_LxDecodeCompletes :
    (at_ .lxDecode .start).seq = .run 0x42#32 ⟨.start, none⟩ := rfl

theorem witness_LxReadCompletes :
    let answers := [.yes, .yes, .yes, .yes, .yes, .sample false, .got [0x00#8, 0x00#8],
      .got [0x64#8, 0x00#8]] ++ []
    let s := script (at_ .lxRead .start) answers
    (at_ .lxRead (.gotPayload (some [0x64#8, 0x00#8]))).seq =
      .run 0x41#32 ⟨.gotPayload (some [0x64#8, 0x00#8]), none⟩ ∧
    s.runsAt .lxRead .start none ∧ s.env.turns = [] ∧ s.cfg.speed ≠ 3#2 ∧
    Config.params.gainLut[s.cfg.gsel.toNat]? = some 2 ∧ Config.params.itLut[s.cfg.isel.toNat]? = some 8 ∧
    s.env.answers = answers :=
  ⟨rfl, rfl, rfl, by show 0#2 ≠ 3#2; decide, defaultGain, defaultTime, rfl⟩

theorem witness_LxInitCompletes :
    let answers := [.yes, .yes, .yes, .yes, .yes, .sample false, .got [0x00#8, 0x00#8]] ++ []
    let s := script (at_ .lxInit .start) answers
    (at_ .lxInit (.gotStatus (some [0x00#8, 0x00#8]))).seq =
      .run 0x40#32 ⟨.gotStatus (some [0x00#8, 0x00#8]), none⟩ ∧
    s.runsAt .lxInit .start none ∧ s.env.turns = [] ∧ s.cfg.speed ≠ 3#2 ∧
    s.cfg.gsel.toNat < Config.params.gainLut.length ∧ s.cfg.isel.toNat < Config.params.itLut.length ∧
    s.env.answers = answers :=
  ⟨rfl, rfl, rfl, by show 0#2 ≠ 3#2; decide, defaultSelection_inside.1, defaultSelection_inside.2, rfl⟩

/-- A state that meets the invariant, and its next state: for NoStepFaultsOrRefuses as well. -/
theorem witness_EveryStepKeepsTheInvariant :
    Inv (at_ .btProbe .start base) ∧ ∃ t, step (at_ .btProbe .start base) = .next t :=
  ⟨inv_at _ _ _ _ (by decide) (by decide) (.inr rfl) (.inl ⟨rfl, rfl⟩), _, rfl⟩

theorem witness_EveryCommandCompletes :
    (at_ .lxInit .start).runsAt .lxInit .start none ∧ (at_ .lxInit .start).env.turns = [] := ⟨rfl, rfl⟩

theorem witness_EngineStepsComeToAnEnd :
    Inv (at_ .btProbe .start base) ∧ (at_ .btProbe .start base).seq = .run (encode .btProbe) ⟨.start, none⟩ ∧
      ∃ t, exec .btProbe (at_ .btProbe .start base) = .next t :=
  ⟨inv_at _ _ _ _ (by decide) (by decide) (.inr rfl) (.inl ⟨rfl, rfl⟩), rfl, _, rfl⟩

end Sys2Proof.Tests
end

section
/-! Host accesses by offset: which register an offset names, and what a write to it does
(spec/20_memory.md R52, R54). -/

namespace Sys2Proof.Machine

/-! ## The register map -/

theorem regAt_offset (r : Reg) : regAt r.offset = some r := by
  cases r with
  | buf k => revert k; decide
  | _ => rfl

/-- The map of R23 is one to one: an offset names a register exactly if it is that register's own. -/
theorem regAt_eq_some_iff {off : BitVec 8} {r : Reg} : regAt off = some r ↔ off = r.offset := by
  refine ⟨fun h => ?_, fun h => h ▸ regAt_offset r⟩
  unfold regAt at h
  split at h <;> cases h <;> exact BitVec.eq_of_toNat_eq ‹_›

/-- The offsets R23 lists are all that name a register; the others are those of R52. -/
theorem regAt_eq_none_iff {off : BitVec 8} :
    regAt off = none ↔ off.toNat ∉ [0x00, 0x04, 0x08, 0x0C, 0x10, 0x14, 0x18, 0x1C, 0x20, 0x24, 0x40,
      0x44, 0x48, 0x4C] := by
  unfold regAt
  split <;> simp_all

/-- An offset either is a register's own or names none. -/
theorem eq_offset_or_regAt_none (off : BitVec 8) : (∃ r : Reg, off = r.offset) ∨ regAt off = none := by
  cases h : regAt off with
  | none => exact .inr rfl
  | some r => exact .inl ⟨r, regAt_eq_some_iff.1 h⟩

/-- Every listed offset is a multiple of 4, so a misaligned one is unmapped as well. -/
theorem regAt_none_of_misaligned {off : BitVec 8} (h : off.toNat % 4 ≠ 0) : regAt off = none := by
  obtain ⟨r, rfl⟩ | hnone := eq_offset_or_regAt_none off
  · cases r with
    | buf k => exact absurd (by revert k; decide) h
    | _ => exact absurd rfl h
  · exact hnone

/-- The operand registers and CMD, by offset and as registers (R54). -/
theorem offset_mem_operands_iff (r : Reg) :
    r.offset.toNat ∈ [0x00, 0x08, 0x0C, 0x10, 0x14, 0x18, 0x1C, 0x40, 0x44, 0x48, 0x4C] ↔
      r ∉ [Reg.status, .result, .brstat] := by
  cases r with
  | buf k => revert k; decide
  | _ => decide

/-- The read-only registers are the mapped ones left over (R31, R32, R54). -/
theorem offset_notMem_writable_iff (r : Reg) :
    r.offset.toNat ∉ [0x00, 0x04, 0x08, 0x0C, 0x10, 0x14, 0x18, 0x1C, 0x40, 0x44, 0x48, 0x4C] ↔
      r = .result ∨ r = .brstat := by
  cases r with
  | buf k => revert k; decide
  | _ => decide

/-! ## Accesses by offset -/

variable {off : BitVec 8}

@[simp] theorem hostWrite_offset (r : Reg) (v : Word) (s : State) :
    hostWrite r.offset v s = writeReg r v s := by
  simp [hostWrite, regAt_offset]

theorem hostWrite_unmapped (h : regAt off = none) (v : Word) (s : State) : hostWrite off v s = s := by
  simp [hostWrite, h]

theorem readValue_unmapped (h : regAt off = none) (s : State) : readValue off s = 0x00000000#32 := by
  simp [readValue, h]

/-- A host read leaves the engine as it was: only the environment records it (R55, R56). -/
theorem hostRead_keeps_engine (off : BitVec 8) (s : State) : { hostRead off s with env := s.env } = s := rfl

/-! ## Writes to a register -/

theorem unlessBusy_of_busy {s : State} (hb : s.status.busy = true) (go : State → State) :
    unlessBusy go s = dropWrite s := by
  simp [unlessBusy, hb]

/-- While busy every register but STATUS, RESULT and BRSTAT drops the write (R54). -/
theorem writeReg_of_busy {r : Reg} {s : State} (hb : s.status.busy = true)
    (hr : r ∉ [Reg.status, .result, .brstat]) (v : Word) : writeReg r v s = dropWrite s := by
  cases r with
  | status | result | brstat => exact absurd (by decide) hr
  | _ => simp [writeReg, unlessBusy_of_busy hb]

/-- RESULT and BRSTAT are read-only, busy or not (R31, R32, R54). -/
theorem writeReg_readOnly {r : Reg} (hr : r = .result ∨ r = .brstat) (v : Word) (s : State) :
    writeReg r v s = s := by
  obtain rfl | rfl := hr <;> rfl

/-- Bit 8 of a write to STATUS clears WIGN; no other bit and no other flag is touched (R25). -/
theorem Status.written_eq (st : Status) (v : Word) :
    st.written v = { st with wign := st.wign && !v.getLsbD 8 } := by
  unfold Status.written
  cases v.getLsbD 8 <;> simp

/-! ## The statements -/

/-- Settles O14: a misaligned offset is unlisted too, and an unlisted one names no register. -/
theorem unmappedAccessesHaveNoEffect : Obligations.UnmappedAccessesHaveNoEffect := by
  intro s off v h
  have hnone : regAt off = none := h.elim regAt_none_of_misaligned regAt_eq_none_iff.2
  exact ⟨hostWrite_unmapped hnone v s, readValue_unmapped hnone s, hostRead_keeps_engine off s⟩

/-- Settles O15, by the register the offset names: an operand register or CMD, STATUS, or a read-only
register or none. -/
theorem writesWhileBusyAreDropped : Obligations.WritesWhileBusyAreDropped := by
  intro s off v
  refine ⟨fun hb hoff => ?_, fun hoff => ?_, fun hoff => ?_⟩
  · obtain ⟨r, rfl⟩ | hnone := eq_offset_or_regAt_none off
    · rw [hostWrite_offset, writeReg_of_busy hb ((offset_mem_operands_iff r).1 hoff)]
      rfl
    · have hunlisted := regAt_eq_none_iff.1 hnone
      simp_all
  · have hstatus : off = Reg.status.offset := BitVec.eq_of_toNat_eq hoff
    rw [hstatus, hostWrite_offset, ← Status.written_eq]
    rfl
  · obtain ⟨r, rfl⟩ | hnone := eq_offset_or_regAt_none off
    · rw [hostWrite_offset, writeReg_readOnly ((offset_notMem_writable_iff r).1 hoff)]
    · exact hostWrite_unmapped hnone v s

end Sys2Proof.Machine
end

section
/-! Words that are no command, and commands whose arguments are illegal: both complete with IllegalCommand
(spec/30_encoding.md R71, R72, R74, R75). -/

namespace Sys2Proof

/-! ## The decode checks as conditions on the word's number -/

/-- The reserved bits CMD[31:8] are 0 exactly in the words below 256 (R70, R72). -/
theorem reservedField_eq_zero_iff (w : Word) : reservedField w = 0#24 ↔ w.toNat < 256 := by
  have hlt := w.isLt
  rw [← BitVec.toNat_inj]
  simp only [reservedField, BitVec.extractLsb'_toNat, BitVec.toNat_ofNat, Nat.shiftRight_eq_div_pow]
  omega

/-- OPCODE is the word modulo 256 (R70). -/
theorem opcodeField_toNat (w : Word) : (opcodeField w).toNat = w.toNat % 256 := by
  simp [opcodeField]

/-- The opcode map of R73 is defined outside the ranges of R75, and nowhere else: row by row of the map, the
last case being the opcodes that are in no row. -/
theorem isSome_decodeOpcode (w : Word) :
    (decodeOpcode (opcodeField w)).isSome = CommandWord.opcodeDefined w := by
  unfold decodeOpcode CommandWord.opcodeDefined
  rw [opcodeField_toNat]
  split
  case h_16 =>
    simp_all
    omega
  all_goals simp [*]

theorem decodeWord_reservedBits {w : Word} (h : 256 ≤ w.toNat) :
    decodeWord w = .error (.reservedBits w) :=
  if_neg fun h0 => Nat.not_lt.2 h ((reservedField_eq_zero_iff w).1 h0)

theorem decodeWord_undefinedOpcode {w : Word} (hlt : w.toNat < 256)
    (h : CommandWord.opcodeDefined w = false) :
    decodeWord w = .error (.undefinedOpcode (opcodeField w)) := by
  have hnone : decodeOpcode (opcodeField w) = none := by
    rw [← Option.isNone_iff_eq_none, ← Option.not_isSome, isSome_decodeOpcode, h, Bool.not_false]
  simp [decodeWord, (reservedField_eq_zero_iff w).2 hlt, hnone]

end Sys2Proof

namespace Sys2Proof.Machine

variable {s : State}

/-! ## The completion with IllegalCommand -/

theorem raiseIllegalWord_eq (s : State) :
    raiseIllegalWord s = { s with status := ⟨false, true, 6#3, s.status.wign⟩, seq := .idle } := rfl

/-- IllegalCommand keeps RESULT, so a command raises it as a word that is no command does (R174). -/
theorem raise_illegalCommand (i : Instr) (s : State) : raise i .illegalCommand s = raiseIllegalWord s := by
  simp [raise, raiseIllegalWord]

/-- While a word that is no command runs and no turn is scripted, the step is its failure completion
(R71, R72, R75). -/
theorem step_eq_raiseIllegalWord {c : Word} {p : Pos} {r : Reject} (hs : s.seq = .run c p)
    (hr : decodeWord c = .error r) (ht : s.env.turns = []) : step s = .next (raiseIllegalWord s) := by
  simp [step, ht, defaultTurn, hs, takeTurn, engineStep, hr]

/-! ## The argument checks (R74) -/

theorem speedIllegal_iff (s : State) : s.speedIllegal = true ↔ s.cfg.speed = 3#2 := beq_iff_eq

theorem lenTooLong_iff (s : State) : s.lenTooLong = true ↔ 16 < s.xfer.len.toNat := decide_eq_true_iff

theorem selectionIllegal_iff (p : Params) (s : State) : s.selectionIllegal p = true ↔
    p.gainLut.length ≤ s.cfg.gsel.toNat ∨ p.itLut.length ≤ s.cfg.isel.toNat := by
  rw [State.selectionIllegal, Bool.or_eq_true, decide_eq_true_iff, decide_eq_true_iff]
  rfl

/-- The first step of every command is its argument check, whatever it goes on to do (R71, R74): with SEQ at the
start, each command's arm evaluates to it. -/
theorem exec_start {c : Word} (i : Instr) (hs : s.seq = .run c ⟨.start, none⟩) :
    ∃ go, exec i s = .next (checked Config.params i go s) := by
  cases s
  cases hs
  cases i <;> exact ⟨_, rfl⟩

theorem exec_start_of_argsIllegal {c : Word} {i : Instr} (hs : s.seq = .run c ⟨.start, none⟩)
    (hi : argsIllegal Config.params i s = true) : exec i s = .next (raiseIllegalWord s) := by
  obtain ⟨go, hexec⟩ := exec_start i hs
  rw [hexec, checked, if_pos hi, raise_illegalCommand]

/-! ## The statements -/

/-- Settles O4: the word does not decode, for its reserved bits or else for its opcode. -/
theorem illegalWordsCompleteWithIllegalCommand : Obligations.IllegalWordsCompleteWithIllegalCommand := by
  intro s c p hs ht hc
  have hreject : ∃ r, decodeWord c = .error r := by
    obtain hreserved | hlt := le_or_gt 256 c.toNat
    · exact ⟨_, decodeWord_reservedBits hreserved⟩
    · exact ⟨_, decodeWord_undefinedOpcode hlt (hc.resolve_left (Nat.not_le.2 hlt))⟩
  obtain ⟨r, hr⟩ := hreject
  rw [step_eq_raiseIllegalWord hs hr ht, raiseIllegalWord_eq]

/-- Settles O5: each command's check is made of the three conditions, and a failed one is raised by the
first step. -/
theorem argumentChecks : Obligations.ArgumentChecks := by
  intro s
  refine ⟨lenTooLong_iff s, ?brWrite, ?brRead, ?speedOnly, ?speedAndSelection, selectionIllegal_iff _ s,
    ?unchecked, ?failed⟩
  case brWrite => simp [argsIllegal, lenTooLong_iff, speedIllegal_iff]
  case brRead => simp [argsIllegal, State.len, lenTooLong_iff, speedIllegal_iff, or_assoc]
  case speedOnly => simp [argsIllegal, speedIllegal_iff]
  case speedAndSelection => simp [argsIllegal, speedIllegal_iff, selectionIllegal_iff]
  case unchecked => simp [argsIllegal]
  case failed =>
    intro i c hs hi
    rw [exec_start_of_argsIllegal hs hi, raiseIllegalWord_eq]

end Sys2Proof.Machine
end

section
/-! The checksum over lists, and the commands that end in their first step (spec/40_checksum.md R86, R87, R90). -/

namespace Sys2Proof.Machine

variable {s : State}

/-! ## The checksum of a list (R86) -/

@[simp] theorem crc16_nil (seed : Half) : crc16 seed [] = seed := rfl

@[simp] theorem crc16_cons (seed : Half) (b : Byte) (l : List Byte) :
    crc16 seed (b :: l) = crc16 (crc16Byte seed b) l := rfl

/-- The partial checksum of the first part is the seed of the second: the first part's bytes move the seed
along one by one, so the induction is over every seed (R87). -/
theorem crc16_append (seed : Half) (a b : List Byte) : crc16 seed (a ++ b) = crc16 (crc16 seed a) b := by
  induction a generalizing seed with
  | nil => rfl
  | cons x xs ih => rw [List.cons_append, crc16_cons, crc16_cons, ih]

/-! ## Commands with no bus primitive -/

/-- With SEQ at the start, such a command's one step is its argument check and what follows it (R21). -/
theorem single_start {p : Params} {i : Instr} {go : State → State} {c : Word} {held : Option (List Byte)}
    (hs : s.seq = .run c ⟨.start, held⟩) : single p i go s = .next (checked p i go s) :=
  atPlace_run _ c _ hs rfl

theorem checked_of_legal {p : Params} {i : Instr} {go : State → State} (hi : argsIllegal p i s = false) :
    checked p i go s = go s := by
  simp [checked, hi]

/-- A completion with success clears BUSY, ERR and CODE, keeps WIGN, and ends the command (R173). -/
theorem finish_eq (s : State) :
    finish s = { s with status := ⟨false, false, 0#3, s.status.wign⟩, seq := .idle } := rfl

theorem exec_nop (s : State) : exec .nop s = single Config.params .nop finish s := rfl

/-! ## The statements -/

/-- Settles O28, by induction on the first part. -/
theorem checksumFoldsOverParts : Obligations.ChecksumFoldsOverParts := crc16_append

/-- Settles O25: NOP has no argument that could be illegal, so its one step is the completion. -/
theorem nopCompletes : Obligations.NopCompletes := by
  refine ⟨rfl, fun s c hs => ?_⟩
  have hlegal : argsIllegal Config.params .nop s = false := rfl
  rw [exec_nop, single_start hs, checked_of_legal hlegal, finish_eq]

end Sys2Proof.Machine
end

section
/-! What the frames of the bridge send: the address byte, and each `BusWrite` of a frame with what it folds
into CRC.ACC (spec/41_bridge.md R101 to R104, R108). -/

namespace Sys2Proof.Machine

variable {s t : State} {c : Word} {pt : Point} {held : Option (List Byte)}

/-! ## The address byte (R102) -/

/-- Shifting the zero-extended address left by one bit puts a 0 below its seven bits: the byte's bit 0 is the
appended one, and its bit k + 1 is bit k of the address. -/
theorem addressByte_eq_append (a7 : BitVec 7) : addressByte a7 = a7 ++ 0#1 := by
  ext k hk
  rw [addressByte, BitVec.getElem_shiftLeft, BitVec.getElem_append]
  cases k with
  | zero => simp
  | succ k => simp [BitVec.getLsbD_eq_getElem (show k < 7 by omega)]

/-! ## A primitive of a frame is the command's step -/

theorem frameStep_start (p : Params) (f : Frame) (s : State) : frameStep p f .start s = none := rfl

/-- A command that is one frame does what the frame does, while the frame neither returns nor fails. -/
theorem frameCommand_of_issued {p : Params} {i : Instr} {f : State → Frame}
    {onReturn : State → List Byte → State} (hs : s.seq = .run c ⟨pt, held⟩)
    (h : frameStep p (f s) pt s = some (.issued t)) : frameCommand p i f onReturn s = .next t := by
  refine atPlace_run _ c _ hs ?_
  split
  case h_1 hstart =>
    cases hstart
    simp [frameStep_start] at h
  case h_2 => simp [h, FrameStep.into]

/-- So does BT_PROBE, in the frame that the bytes it holds put it in (R143). -/
theorem btProbe_of_issued {p : Params} {f : Frame} (hs : s.seq = .run c ⟨pt, held⟩)
    (hf : frameOf p .btProbe s held = some f) (h : frameStep p f pt s = some (.issued t)) :
    btProbe p s = .next t := by
  have hheld : s.seq.held = held := by rw [hs]; rfl
  refine atPlace_run _ c _ hs ?_
  rw [hheld]
  cases hf
  split
  case h_1 hstart | h_2 hstart =>
    cases hstart
    simp [frameStep_start] at h
  case h_3 | h_4 => simp [h, FrameStep.into]

/-- A primitive issued by the frame a command is in is that command's engine step. -/
theorem exec_of_issued {i : Instr} {f : Frame} (hs : s.seq = .run c ⟨pt, held⟩)
    (hf : frameOf Config.params i s held = some f)
    (h : frameStep Config.params f pt s = some (.issued t)) : exec i s = .next t := by
  cases i with
  | btProbe => exact btProbe_of_issued hs hf h
  | brWrite | brRead | btRead | lxInit | lxRead =>
    cases hf
    exact frameCommand_of_issued hs h
  | nop | crcByte | crcBuf | brConfig | dtStart | dtRead | dtDecode | btDecode | lxDecode => cases hf

/-! ## The writes of a frame (R101, R103) -/

/-- A `BusWrite` while a command runs: one event and one answer used up, and the command goes on at the place
for that answer. -/
theorem busWrite_of_run (l : List Byte) (k : Bool → Point) (hs : s.seq = .run c ⟨pt, held⟩) :
    busWrite l k s = { s with
      seq := .run c ⟨k s.answer.ok, held⟩
      env := s.env.after s.env.answers.tail 1 [.write l s.answer.ok] } := by
  have hgoto : (busWrite l k s).seq = .run c ⟨k s.answer.ok, held⟩ := by rw [busWrite_seq, hs]; rfl
  rw [← hgoto]
  rfl

/-- After an ok `BusSelect` the frame's first bytes are next, the chunk of index 0. -/
theorem frameStep_selected_true (p : Params) (f : Frame) (s : State) :
    frameStep p f (.selected true) s = some (.issued (frameSend f 0 s)) := rfl

theorem frameStep_sent_true (p : Params) (f : Frame) (k : Nat) (s : State) :
    frameStep p f (.sent k true) s = some (.issued (frameSend f k s)) := rfl

variable {f : Frame} {k : Nat} {l : List Byte}

/-- The first bytes are folded with CRC_SEED, whatever ACC held (R101). -/
theorem frameSend_first (hl : f.chunks[0]? = some l) (s : State) :
    frameSend f 0 s = busWrite l (.sent 1) (s.setAcc (crc16 0x0000#16 l)) := by
  simp [frameSend, hl, Config.crcSeed]

/-- Later bytes are folded onto ACC (R101). -/
theorem frameSend_later (hk : 1 ≤ k) (hl : f.chunks[k]? = some l) (s : State) :
    frameSend f k s = busWrite l (.sent (k + 1)) (s.setAcc (crc16 s.acc l)) := by
  simp [frameSend, hl, Nat.ne_of_gt hk]

/-- After the last of them comes the trailer, and ACC stays (R103). -/
theorem frameSend_trailer (f : Frame) (s : State) :
    frameSend f f.chunks.length s = busWrite (trailer s.acc) .sentTrailer s := by
  simp [frameSend]

/-! ## The statements -/

/-- Settles O31: each frame's first bytes hold the address byte of R102. -/
theorem addressByteOfBothFrames : Obligations.AddressByteOfBothFrames := by
  intro p speed a7 reg pay n
  rw [← addressByte_eq_append]
  exact ⟨rfl, rfl⟩

/-- Settles O33: at each of the three places the frame issues a `BusWrite`, which is the command's step. -/
theorem framesSendWhatTheyFold : Obligations.FramesSendWhatTheyFold := by
  intro i s c held f hf
  refine ⟨fun l hs hl => ?first, fun k l hk hs hl => ?later, fun hs => ?trailer⟩
  case first =>
    rw [exec_of_issued hs hf (frameStep_selected_true _ f s), frameSend_first hl,
      busWrite_of_run l _ ((State.setAcc_seq s _).trans hs)]
    rfl
  case later =>
    rw [exec_of_issued hs hf (frameStep_sent_true _ f k s), frameSend_later hk hl,
      busWrite_of_run l _ ((State.setAcc_seq s _).trans hs)]
    rfl
  case trailer =>
    rw [exec_of_issued hs hf (frameStep_sent_true _ f _ s), frameSend_trailer, busWrite_of_run _ _ hs]
    rfl

end Sys2Proof.Machine
end

section
/-! The temperature converters at work: what a converted value does to the state, and the two commands that
convert DATA in their one step (spec/42_temperature.md R134, R139, R146 to R149). -/

namespace Sys2Proof.Machine

variable {s : State} {raw : Half}

/-! ## Completions that write RESULT -/

/-- A value in RESULT and a completion with success (R173). -/
theorem finish_setResult (v : Word) (s : State) : finish (s.setResult v) = { s with
    result := v
    status := ⟨false, false, 0#3, s.status.wign⟩
    seq := .idle } := rfl

/-- A result-producing command that ran and failed leaves 0 in RESULT (R174). -/
theorem raise_of_resultProducing {i : Instr} {e : Failure} (hi : resultProducing i = true)
    (he : e ≠ .illegalCommand) (s : State) : raise i e s = { s with
      result := 0#32
      status := ⟨false, true, e.code, s.status.wign⟩
      seq := .idle } := by
  rw [raise, if_pos ⟨hi, he⟩]
  rfl

/-! ## The direct-bus converter's outcome (R139) -/

theorem dtConv_of_inRange (hmin : -550 ≤ dtValue raw) (hmax : dtValue raw ≤ 1250) :
    dtConv raw = some (dtValue raw) :=
  if_neg (not_or.2 ⟨Int.not_lt.2 hmin, Int.not_lt.2 hmax⟩)

theorem dtConv_of_outOfRange (h : dtValue raw < -550 ∨ 1250 < dtValue raw) : dtConv raw = none :=
  if_pos h

theorem dtResult_of_inRange (hmin : -550 ≤ dtValue raw) (hmax : dtValue raw ≤ 1250) (i : Instr) (s : State) :
    dtResult i raw s = { s with
      result := BitVec.ofInt 32 (dtValue raw)
      status := ⟨false, false, 0#3, s.status.wign⟩
      seq := .idle } := by
  rw [dtResult, dtConv_of_inRange hmin hmax, ← finish_setResult]

/-- A value outside the range is RangeError, in either command that converts (R133, R134). -/
theorem dtResult_of_outOfRange {i : Instr} (hi : resultProducing i = true)
    (h : dtValue raw < -550 ∨ 1250 < dtValue raw) (s : State) :
    dtResult i raw s = { s with
      result := 0#32
      status := ⟨false, true, 4#3, s.status.wign⟩
      seq := .idle } := by
  have hrange : Failure.rangeError ≠ .illegalCommand := nofun
  rw [dtResult, dtConv_of_outOfRange h]
  exact raise_of_resultProducing hi hrange s

/-! ## The bridged converter over the integers (R147 to R149) -/

/-- The magnitude is the raw value modulo 4096, and bit 12 alone decides whether the offset is taken off. -/
theorem btConv_eq (raw : Half) :
    btConv raw = (raw.toNat % 4096 * 10 / 16 : Nat) - (if raw.getLsbD 12 then 2560 else 0) := by
  have hlow : (raw.extractLsb' 0 12).toNat = raw.toNat % 4096 := by simp
  rw [btConv, hlow]
  cases raw.getLsbD 12 with
  | true => rfl
  | false => exact (Int.sub_zero _).symm

theorem btResult_eq (raw : Half) (s : State) : btResult raw s = { s with
    result := BitVec.ofInt 32 (btConv raw)
    status := ⟨false, false, 0#3, s.status.wign⟩
    seq := .idle } := finish_setResult _ s

/-! ## The commands' one step -/

/-- DT_DECODE has no argument that could be illegal, so its one step is the conversion of DATA (R74, R134). -/
theorem exec_dtDecode_start {c : Word} (hs : s.seq = .run c ⟨.start, none⟩) :
    exec .dtDecode s = .next (dtResult .dtDecode s.data s) := by
  have hlegal : argsIllegal Config.params .dtDecode s = false := rfl
  rw [exec, execDtDecode, single_start hs, checked_of_legal hlegal]

/-- Neither has BT_DECODE (R74, R146). -/
theorem exec_btDecode_start {c : Word} (hs : s.seq = .run c ⟨.start, none⟩) :
    exec .btDecode s = .next (btResult s.data s) := by
  have hlegal : argsIllegal Config.params .btDecode s = false := rfl
  rw [exec, execBtDecode, single_start hs, checked_of_legal hlegal]

/-! ## The statements -/

/-- Settles O46, by whether the value of DATA is in range. -/
theorem dtDecodeCompletes : Obligations.DtDecodeCompletes := by
  refine ⟨rfl, fun s c hs => ⟨fun hmin hmax => ?inRange, fun hout => ?outOfRange⟩⟩
  case inRange => rw [exec_dtDecode_start hs, dtResult_of_inRange hmin hmax]
  case outOfRange =>
    have hproduces : resultProducing .dtDecode = true := rfl
    rw [exec_dtDecode_start hs, dtResult_of_outOfRange hproduces hout]

/-- Settles O48: the bridged converter has no range check, so every DATA completes with its value (R150). -/
theorem btDecodeCompletes : Obligations.BtDecodeCompletes := by
  refine ⟨rfl, fun s c hs => ?_⟩
  rw [exec_btDecode_start hs, btResult_eq, btConv_eq]

end Sys2Proof.Machine
end

section
/-! The illuminance scaler at work: what a valid selection does to RESULT, and the command that scales DATA in
its one step (spec/43_illuminance.md R155 to R157, R163). -/

namespace Sys2Proof.Machine

variable {p : Params} {s : State} {a b : Nat}

/-! ## Valid selections (R156) -/

/-- A selection is valid exactly if both tables hold an entry for it. -/
theorem selectionIllegal_eq_false_iff : s.selectionIllegal p = false ↔
    ∃ a b, p.gainLut[s.cfg.gsel.toNat]? = some a ∧ p.itLut[s.cfg.isel.toNat]? = some b := by
  rw [← Bool.not_eq_true, selectionIllegal_iff, ← List.getElem?_eq_none_iff, ← List.getElem?_eq_none_iff,
    not_or, ← ne_eq, ← ne_eq, Option.ne_none_iff_exists', Option.ne_none_iff_exists', exists_and_exists_comm]

/-! ## The scaled count (R155, R157) -/

theorem lxFactor_of_entries (ha : p.gainLut[s.cfg.gsel.toNat]? = some a)
    (hb : p.itLut[s.cfg.isel.toNat]? = some b) :
    lxFactor p s.gainIndex s.timeIndex = some (36 * a * b) := by
  rw [lxFactor, State.gainIndex, State.timeIndex, ha, hb]
  rfl

/-- With a valid selection the count is scaled and the command completes, in either command that scales
(R162, R163). -/
theorem lxResult_of_entries (ha : p.gainLut[s.cfg.gsel.toNat]? = some a)
    (hb : p.itLut[s.cfg.isel.toNat]? = some b) (i : Instr) (raw : Half) :
    lxResult p i raw s = { s with
      result := BitVec.ofNat 32 (raw.toNat * (36 * a * b) / 1000)
      status := ⟨false, false, 0#3, s.status.wign⟩
      seq := .idle } := by
  rw [lxResult, lxFactor_of_entries ha hb]
  exact finish_setResult _ s

/-! ## The command's one step -/

/-- The selection is LX_DECODE's only argument check (R74). -/
theorem argsIllegal_lxDecode (p : Params) (s : State) : argsIllegal p .lxDecode s = s.selectionIllegal p := rfl

/-- Past the check, LX_DECODE's one step is the scaling of DATA (R163). -/
theorem exec_lxDecode_start {c : Word} (hs : s.seq = .run c ⟨.start, none⟩)
    (hvalid : s.selectionIllegal Config.params = false) :
    exec .lxDecode s = .next (lxResult Config.params .lxDecode s.data s) := by
  have hlegal := (argsIllegal_lxDecode Config.params s).trans hvalid
  rw [exec, execLxDecode, lxDecode, single_start hs, checked_of_legal hlegal]

/-! ## The statement -/

/-- Settles O53, by whether both tables hold an entry for the selection. -/
theorem lxDecodeCompletes : Obligations.LxDecodeCompletes := by
  refine ⟨rfl, fun s c hs => ?_⟩
  split
  next a b ha hb =>
    rw [exec_lxDecode_start hs (selectionIllegal_eq_false_iff.2 ⟨a, b, ha, hb⟩), lxResult_of_entries ha hb]
  next hmissing =>
    have hillegal : argsIllegal Config.params .lxDecode s = true := by
      rw [argsIllegal_lxDecode, ← Bool.not_eq_false, selectionIllegal_eq_false_iff]
      exact fun ⟨a, b, ha, hb⟩ => hmissing a b ha hb
    rw [exec_start_of_argsIllegal hs hillegal, raiseIllegalWord_eq]

end Sys2Proof.Machine
end

section
/-! What the host reads of an idle engine, and the reset state as it reads it (spec/20_memory.md R56,
spec/70_reset_and_hazards.md R191). -/

namespace Sys2Proof.Machine

/-! ## Reads of an idle engine -/

/-- While idle no read is a free value: the host gets the register as it is (R55, R56). -/
theorem readValue_offset_of_idle {s : State} (hidle : s.status.busy = false) (r : Reg) :
    readValue r.offset s = regValue s r := by
  simp [readValue, regAt_offset, readIsFree, hidle]

/-! ## Registers made of fields -/

/-- Appended bits sit below the others, which they shift up by their width. -/
theorem toNat_append_eq_add {m n : Nat} (x : BitVec m) (y : BitVec n) :
    (x ++ y).toNat = x.toNat * 2 ^ n + y.toNat := by
  rw [BitVec.toNat_append, ← Nat.shiftLeft_add_eq_or_of_lt y.isLt, Nat.shiftLeft_eq]

/-- CFG as a number: its fields at their places, the reserved bits 0 (R30). -/
theorem Cfg.word_toNat (c : Cfg) :
    c.word.toNat = c.speed.toNat + 16 * c.gsel.toNat + 256 * c.isel.toNat := by
  simp only [Cfg.word, toNat_append_eq_add, BitVec.toNat_ofNat]
  omega

/-! ## The reset state (R191) -/

theorem Memory.read_nil (a : Nat) : Memory.read [] a = 0x00#8 := rfl

theorem bufWord_nil (k : Nat) : bufWord [] k = 0#32 := by
  simp only [bufWord, Memory.read_nil]
  rfl

theorem reset_idle : State.reset.status.busy = false := rfl

/-- CFG is the one register whose reset value is not 0. -/
theorem regValue_reset_of_ne_cfg {r : Reg} (hr : r ≠ .cfg) : regValue State.reset r = 0#32 := by
  cases r with
  | cfg => exact absurd rfl hr
  | buf k => exact bufWord_nil k
  | cmd | status | crc | devidLo | devidHi | xfer | data | result | brstat => rfl

/-- CFG reads as the two reset parameters at their places, with SPEED 0 (R30). -/
theorem regValue_reset_cfg_toNat : (regValue State.reset .cfg).toNat =
    16 * Config.params.gselRst.toNat + 256 * Config.params.iselRst.toNat := by
  calc (regValue State.reset .cfg).toNat
    _ = (0#2).toNat + 16 * Config.params.gselRst.toNat + 256 * Config.params.iselRst.toNat :=
      Cfg.word_toNat Cfg.reset
    _ = 16 * Config.params.gselRst.toNat + 256 * Config.params.iselRst.toNat := by simp

/-! ## The statement -/

/-- Settles O10: the reset state is idle, so the host reads each register's own value. -/
theorem resetValues : Obligations.ResetValues := by
  refine ⟨fun r hr => ?zero, rfl, ?cfg, Memory.read_nil, rfl⟩
  case zero =>
    have hne : r ≠ .cfg := by
      rintro rfl
      exact absurd hr (by decide)
    rw [readValue_offset_of_idle reset_idle, regValue_reset_of_ne_cfg hne]
  case cfg => rw [readValue_offset_of_idle reset_idle, regValue_reset_cfg_toNat]

end Sys2Proof.Machine
end

section
/-! The converters as integer arithmetic, with the ranges of what they compute (spec/42_temperature.md R136 to
R139, R147 to R150, spec/43_illuminance.md R155 to R157). -/

namespace Sys2Proof.Machine

variable {raw : Half} {a b g t : Nat}

/-! ## The direct-bus converter (R136 to R139) -/

/-- Bit 15 is the sign of the two's-complement number. -/
theorem signBit_iff (raw : Half) : raw.getLsbD 15 = true ↔ raw.toInt < 0 := by
  have hmsb : raw.msb = raw.getLsbD 15 := rfl
  rw [← hmsb, BitVec.msb_eq_toInt, decide_eq_true_iff]

/-- The magnitude is the absolute value, in both branches of R136. -/
theorem dtMag_eq_natAbs (raw : Half) : dtMag raw = raw.toInt.natAbs := by
  have hneg : ~~~raw + 1#16 = -raw := (BitVec.neg_eq_not_add raw).symm
  have hlt := raw.isLt
  rw [dtMag, hneg]
  by_cases hsign : raw.toInt < 0
  · rw [if_pos ((signBit_iff raw).2 hsign), BitVec.toNat_neg]
    rw [BitVec.toInt_eq_toNat_cond] at hsign ⊢
    omega
  · rw [if_neg (mt (signBit_iff raw).1 hsign)]
    rw [BitVec.toInt_eq_toNat_cond] at hsign ⊢
    omega

theorem dtMag_le (raw : Half) : dtMag raw ≤ 32768 := by
  have hmin := BitVec.le_toInt raw
  have hmax := BitVec.toInt_lt (x := raw)
  rw [dtMag_eq_natAbs]
  omega

/-- Where the number is not negative the fraction is rounded to the nearest (R138). -/
theorem dtValue_of_nonneg (h : 0 ≤ raw.toInt) :
    dtValue raw = raw.toInt / 16 * 10 + (raw.toInt % 16 * 640 + 512) / 1024 := by
  have hsign : raw.getLsbD 15 = false := by
    rw [← Bool.not_eq_true, signBit_iff]
    omega
  simp only [dtValue, hsign, dtInt, dtFrac, dtMag_eq_natAbs, Bool.false_eq_true, if_false]
  omega

/-- Where it is negative the magnitude's fraction is cut off (R138). -/
theorem dtValue_of_neg (h : raw.toInt < 0) :
    dtValue raw = -(-raw.toInt / 16 * 10 + -raw.toInt % 16 * 640 / 1024) := by
  simp only [dtValue, (signBit_iff raw).2 h, dtInt, dtFrac, dtMag_eq_natAbs, if_true]
  omega

/-- Before the range check the value lies in -20480..20489 (R139). -/
theorem dtValue_bounds (raw : Half) : -20480 ≤ dtValue raw ∧ dtValue raw ≤ 20489 := by
  have hmin := BitVec.le_toInt raw
  have hmax := BitVec.toInt_lt (x := raw)
  obtain h | h := lt_or_ge raw.toInt 0
  · rw [dtValue_of_neg h]
    omega
  · rw [dtValue_of_nonneg h]
    omega

theorem dtConv_eq_none_iff : dtConv raw = none ↔ dtValue raw < -550 ∨ 1250 < dtValue raw := by
  refine ⟨fun h => ?_, dtConv_of_outOfRange⟩
  by_contra hin
  obtain ⟨hmin, hmax⟩ := not_or.1 hin
  simp [dtConv_of_inRange (Int.not_lt.1 hmin) (Int.not_lt.1 hmax)] at h

/-- A value the direct converter returns is the one it computed, and is in range (R139). -/
theorem dtConv_eq_some {v : Int} (h : dtConv raw = some v) : v = dtValue raw ∧ -550 ≤ v ∧ v ≤ 1250 := by
  have hin : ¬(dtValue raw < -550 ∨ 1250 < dtValue raw) := by
    rw [← dtConv_eq_none_iff, h]
    nofun
  have hv : dtConv raw = some (dtValue raw) := if_neg hin
  obtain rfl := Option.some.inj (h.symm.trans hv)
  omega

/-! ## The bridged converter (R147 to R150) -/

/-- Bit 12 of the raw value as a condition on its number. -/
theorem bit12_iff (raw : Half) : raw.getLsbD 12 = true ↔ raw.toNat / 4096 % 2 = 1 := by
  rw [BitVec.getLsbD, Nat.testBit_eq_decide_div_mod_eq, decide_eq_true_iff]

/-- Bit 12 is the sign of the low 13 bits, and taking 2560 off is taking 4096 sixteenths of ten off before the
division (R149). -/
theorem btConv_eq_floor (raw : Half) : btConv raw = (10 * (raw.setWidth 13).toInt) / 16 := by
  rw [btConv_eq, BitVec.toInt_eq_toNat_cond, BitVec.toNat_setWidth]
  simp only [Nat.reducePow, bit12_iff]
  by_cases h : raw.toNat / 4096 % 2 = 1
  · have hlow : raw.toNat % 8192 = raw.toNat % 4096 + 4096 := by omega
    rw [if_pos h, hlow, if_neg (by omega)]
    generalize raw.toNat % 4096 = m
    omega
  · have hlow : raw.toNat % 8192 = raw.toNat % 4096 := by omega
    rw [if_neg h, hlow, if_pos (by omega)]
    omega

theorem btConv_bounds (raw : Half) : -2560 ≤ btConv raw ∧ btConv raw ≤ 2559 := by
  have hmin := BitVec.le_toInt (raw.setWidth 13)
  have hmax := BitVec.toInt_lt (x := raw.setWidth 13)
  rw [btConv_eq_floor]
  omega

/-! ## The illuminance scaler (R155 to R157) -/

/-- Every pair of table entries makes a positive factor of at most 65535 (R7). -/
theorem factor_bounds (ha : Config.params.gainLut[g]? = some a) (hb : Config.params.itLut[t]? = some b) :
    1 ≤ a ∧ 1 ≤ b ∧ 36 * a * b ≤ 65535 := by
  obtain ⟨-, hpositive, hbounded, -⟩ := wf_cases _ params_wf
  simp only [Params.entriesPositive, Bool.and_eq_true, List.all_eq_true, decide_eq_true_eq] at hpositive
  simp only [Params.factorBounded, List.all_eq_true, decide_eq_true_eq] at hbounded
  have hma := List.mem_of_getElem? ha
  have hmb := List.mem_of_getElem? hb
  exact ⟨hpositive.1 a hma, hpositive.2 b hmb, hbounded a hma b hmb⟩

theorem factor_pos (ha : Config.params.gainLut[g]? = some a) (hb : Config.params.itLut[t]? = some b) :
    0 < 36 * a * b := by
  obtain ⟨hpa, hpb, -⟩ := factor_bounds ha hb
  positivity

/-- The factor is a multiple of 36, so 65520 is the most it can be. -/
theorem factor_le (ha : Config.params.gainLut[g]? = some a) (hb : Config.params.itLut[t]? = some b) :
    36 * a * b ≤ 65520 := by
  obtain ⟨-, -, hle⟩ := factor_bounds ha hb
  rw [Nat.mul_assoc] at hle ⊢
  omega

theorem lxFactor_eq {p : Params} (ha : p.gainLut[g]? = some a) (hb : p.itLut[t]? = some b) :
    lxFactor p g t = some (36 * a * b) := by
  rw [lxFactor, ha, hb]
  rfl

/-- A scale factor is a product of two table entries (R155). -/
theorem lxFactor_eq_some {p : Params} {f : Nat} (h : lxFactor p g t = some f) :
    ∃ a b, p.gainLut[g]? = some a ∧ p.itLut[t]? = some b ∧ f = 36 * a * b := by
  unfold lxFactor at h
  split at h
  next a b ha hb => exact ⟨a, b, ha, hb, (Option.some.inj h).symm⟩
  next => cases h

theorem product_le {f : Nat} (hf : f ≤ 65520) (raw : Half) : raw.toNat * f ≤ 65535 * 65520 :=
  Nat.mul_le_mul (Nat.le_of_lt_succ raw.isLt) hf

theorem lxConv_le {f : Nat} (hf : f ≤ 65520) (raw : Half) : lxConv raw f ≤ 4293853 := by
  have hle := product_le hf raw
  rw [lxConv, Config.lxScale]
  omega

theorem toInt_ofNat_word {n : Nat} (h : n < 2 ^ 31) : (BitVec.ofNat 32 n).toInt = n := by
  rw [BitVec.toInt_eq_toNat_cond, BitVec.toNat_ofNat]
  omega

theorem toInt_ofInt_word {v : Int} (hmin : -2 ^ 31 ≤ v) (hmax : v < 2 ^ 31) :
    (BitVec.ofInt 32 v).toInt = v := by
  rw [BitVec.toInt_ofInt]
  exact Int.bmod_eq_of_le (by omega) (by omega)

/-! ## The statements -/

/-- Settles O43, by the sign of the number. -/
theorem directConverter : Obligations.DirectConverter := fun raw =>
  ⟨dtMag_eq_natAbs raw, dtMag_le raw, dtValue_of_nonneg, dtValue_of_neg, (dtValue_bounds raw).1,
    (dtValue_bounds raw).2, dtConv_eq_none_iff, fun _ h => (dtConv_eq_some h).1⟩

/-- Settles O47. -/
theorem bridgedConverter : Obligations.BridgedConverter := fun raw =>
  ⟨btConv_eq_floor raw, btConv_bounds raw⟩

/-- Settles O52: the bounds of the factor bound the product, and the quotient is the largest such number. -/
theorem illuminanceScaler : Obligations.IlluminanceScaler := by
  refine ⟨fun g t a b raw ha hb => ?scaler, ?atReset⟩
  case scaler =>
    have hf := factor_le ha hb
    have hproduct := product_le hf raw
    have hconv := lxConv_le hf raw
    have hdiv : lxConv raw (36 * a * b) = raw.toNat * (36 * a * b) / 1000 := rfl
    exact ⟨lxFactor_eq ha hb, factor_pos ha hb, hf, by omega, hdiv, by omega, by omega, by omega, hconv,
      toInt_ofNat_word (by omega)⟩
  case atReset => exact lxFactor_eq defaultGain defaultTime

end Sys2Proof.Machine
end

section
/-! One engine step of a command, said once for all fifteen (spec/10_state.md R21, spec/41_bridge.md R100 to R108,
spec/60_exceptions.md R173, R174): what it does at its start, which moves its pseudocode has at every later place,
and what a return and a failure of the pseudocode come to. -/

namespace Sys2Proof.Machine

variable {p : Params} {f : Frame} {i : Instr} {s t : State} {c : Word} {pt : Point}
  {held : Option (List Byte)} {r : FrameStep}

/-! ## The moves of a frame -/

/-- The bus answered ok = false to the primitive before this place (R12). -/
def Point.answerFailed : Point → Bool
  | .selected ok => !ok
  | .sent _ ok => !ok
  | .sentTrailer ok => !ok
  | .sampledFirst bit => bit.isNone
  | .sampledRetry _ bit => bit.isNone
  | .gotStatus d => d.isNone
  | .gotPayload d => d.isNone
  | .start => false
  | .sleptExpected _ => false
  | .sleptRetry _ => false

/-- The places after a busy sample or a sleep from which `n` sleeps of the expected wait are still to come
(R105). -/
inductive ToExpected (f : Frame) (n : Nat) : Point → Prop
  | first (h : f.expected = n) : ToExpected f n (.sampledFirst (some true))
  | slept : ToExpected f n (.sleptExpected n)

/-- The places from which the retry loop goes on with `n` rounds to come (R105). -/
inductive ToRetry (p : Params) (f : Frame) (n : Nat) : Point → Prop
  | waited {pt : Point} (hn : n = p.retry) (h : ToExpected f 0 pt) : ToRetry p f n pt
  | slept : ToRetry p f n (.sleptRetry n)

/-- The places after a sample that shows the bridge ready (R105). -/
inductive SampledReady : Point → Prop
  | first : SampledReady (.sampledFirst (some false))
  | retry (left : Nat) : SampledReady (.sampledRetry left (some false))

/-- The moves of a frame after its first primitive (R100 to R108), the branches of its pseudocode laid flat. -/
inductive FrameMove (p : Params) (f : Frame) (s : State) : Point → FrameStep → Prop
  | failed {pt : Point} (hfail : pt.answerFailed = true) (hread : pt = .gotPayload none → f.payload ≠ none) :
    FrameMove p f s pt (.raised s .busError)
  | sendFirst : FrameMove p f s (.selected true) (.issued (frameSend f 0 s))
  | sendNext (k : Nat) : FrameMove p f s (.sent k true) (.issued (frameSend f k s))
  | sample : FrameMove p f s (.sentTrailer true) (.issued (busReadBit .sampledFirst s))
  | sleepExpected {pt : Point} (n : Nat) (h : ToExpected f (n + 1) pt) :
    FrameMove p f s pt (.issued (busSleep (p.unitUs s.cfg.speed) (.sleptExpected n) s))
  | sampleRetry {pt : Point} (n : Nat) (h : ToRetry p f (n + 1) pt) :
    FrameMove p f s pt (.issued (busReadBit (.sampledRetry n) s))
  | sleepRetry (n : Nat) : FrameMove p f s (.sampledRetry n (some true))
    (.issued (busSleep (p.unitUs s.cfg.speed) (.sleptRetry n) s))
  | timeout {pt : Point} (h : ToRetry p f 0 pt) : FrameMove p f s pt (.raised s .timeoutError)
  | readStatus {pt : Point} (h : SampledReady pt) : FrameMove p f s pt (.issued (busRead 2 .gotStatus s))
  | badStatus (d : List Byte) (e : Failure) (h : statusCheck p ⟨byteAt d 0, byteAt d 1⟩ = some e) :
    FrameMove p f s (.gotStatus (some d)) (.raised (s.setBrstat ⟨byteAt d 0, byteAt d 1⟩) e)
  | endWrite (d : List Byte) (h0 : byteAt d 0 = 0x00#8) (h1 : byteAt d 1 = 0x00#8)
    (hpay : f.payload = none) :
    FrameMove p f s (.gotStatus (some d)) (.returned (s.setBrstat ⟨0x00#8, 0x00#8⟩) [])
  | readPayload (d : List Byte) (n : Nat) (h0 : byteAt d 0 = 0x00#8) (h1 : byteAt d 1 = 0x00#8)
    (hpay : f.payload = some n) : FrameMove p f s (.gotStatus (some d))
      (.issued (busRead n .gotPayload (s.setBrstat ⟨0x00#8, 0x00#8⟩)))
  | store (d : List Byte) (n : Nat) (hpay : f.payload = some n) :
    FrameMove p f s (.gotPayload (some d)) (.returned (storePayload n d s) d)

theorem pollRetry_move {n : Nat} (h : ToRetry p f n pt) (s : State) : FrameMove p f s pt (pollRetry n s) := by
  cases n with
  | zero => exact .timeout h
  | succ n => exact .sampleRetry n h

theorem pollExpected_move {n : Nat} (h : ToExpected f n pt) (s : State) :
    FrameMove p f s pt (pollExpected p n s) := by
  cases n with
  | zero => exact pollRetry_move (.waited rfl h) s
  | succ n => exact .sleepExpected n h

theorem needOk_move {go : FrameStep} {ok : Bool} (hfail : ok = false → pt.answerFailed = true)
    (hpt : pt ≠ .gotPayload none) (hgo : ok = true → FrameMove p f s pt go) :
    FrameMove p f s pt (needOk ok s go) := by
  cases ok with
  | true => exact hgo rfl
  | false => exact .failed (hfail rfl) fun h => absurd h hpt

theorem frameStatus_of_zero {d : List Byte} (h0 : byteAt d 0 = 0x00#8) (h1 : byteAt d 1 = 0x00#8)
    (p : Params) (f : Frame) (s : State) :
    frameStatus p f d s = frameEnd f (s.setBrstat ⟨0x00#8, 0x00#8⟩) := by
  simp [frameStatus, statusCheck, h0, h1]

theorem frameStatus_of_check {d : List Byte} {e : Failure}
    (h : statusCheck p ⟨byteAt d 0, byteAt d 1⟩ = some e) (f : Frame) (s : State) :
    frameStatus p f d s = .raised (s.setBrstat ⟨byteAt d 0, byteAt d 1⟩) e := by
  simp [frameStatus, h]

theorem frameStatus_move (p : Params) (f : Frame) (d : List Byte) (s : State) :
    FrameMove p f s (.gotStatus (some d)) (frameStatus p f d s) := by
  cases h : statusCheck p ⟨byteAt d 0, byteAt d 1⟩ with
  | some e =>
    rw [frameStatus_of_check h]
    exact .badStatus d e h
  | none =>
    obtain ⟨h0, h1⟩ := (statusCheck_none_iff _ _).1 h
    rw [frameStatus_of_zero h0 h1, frameEnd]
    cases hpay : f.payload with
    | none => exact .endWrite d h0 h1 hpay
    | some n => exact .readPayload d n h0 h1 hpay

/-- The frame's step function has no other move. -/
theorem frameMove_of_frameStep (h : frameStep p f pt s = some r) : FrameMove p f s pt r := by
  cases pt with
  | start => cases h
  | selected ok =>
    cases h
    exact needOk_move (by rintro rfl; rfl) nofun (by rintro rfl; exact .sendFirst)
  | sent k ok =>
    cases h
    exact needOk_move (by rintro rfl; rfl) nofun (by rintro rfl; exact .sendNext k)
  | sentTrailer ok =>
    cases h
    exact needOk_move (by rintro rfl; rfl) nofun (by rintro rfl; exact .sample)
  | sampledFirst bit =>
    match bit with
    | none => cases h; exact .failed rfl nofun
    | some false => cases h; exact .readStatus .first
    | some true => cases h; exact pollExpected_move (.first rfl) s
  | sleptExpected n => cases h; exact pollExpected_move .slept s
  | sampledRetry n bit =>
    match bit with
    | none => cases h; exact .failed rfl nofun
    | some false => cases h; exact .readStatus (.retry n)
    | some true => cases h; exact .sleepRetry n
  | sleptRetry n => cases h; exact pollRetry_move .slept s
  | gotStatus d =>
    cases d with
    | none => cases h; exact .failed rfl nofun
    | some d => cases h; exact frameStatus_move p f d s
  | gotPayload d =>
    cases d with
    | none =>
      obtain ⟨n, hpay, rfl⟩ := Option.map_eq_some_iff.1 h
      exact .failed rfl fun _ => by simp [hpay]
    | some d =>
      obtain ⟨n, hpay, rfl⟩ := Option.map_eq_some_iff.1 h
      exact .store d n hpay

theorem frameStep_of_toExpected {n : Nat} (h : ToExpected f n pt) :
    frameStep p f pt s = some (pollExpected p n s) := by
  cases h with
  | first h => rw [← h]; rfl
  | slept => rfl

theorem frameStep_of_toRetry {n : Nat} (h : ToRetry p f n pt) :
    frameStep p f pt s = some (pollRetry n s) := by
  cases h with
  | waited hn h => rw [frameStep_of_toExpected h, hn]; rfl
  | slept => rfl

theorem frameStep_of_answerFailed (hfail : pt.answerFailed = true)
    (hread : pt = .gotPayload none → f.payload ≠ none) :
    frameStep p f pt s = some (.raised s .busError) := by
  cases pt with
  | start | sleptExpected | sleptRetry => cases hfail
  | selected ok | sent k ok | sentTrailer ok => cases ok <;> [rfl; cases hfail]
  | sampledFirst a | sampledRetry n a | gotStatus a => cases a <;> [rfl; cases hfail]
  | gotPayload d =>
    cases d with
    | some d => cases hfail
    | none =>
      obtain ⟨n, hn⟩ := Option.ne_none_iff_exists'.1 (hread rfl)
      simp [frameStep, hn]

/-- Each of these moves is the frame's step. -/
theorem frameStep_of_frameMove (h : FrameMove p f s pt r) : frameStep p f pt s = some r := by
  cases h with
  | failed hfail hread => exact frameStep_of_answerFailed hfail hread
  | sendFirst | sendNext | sample | sleepRetry => rfl
  | sleepExpected n h => exact frameStep_of_toExpected h
  | sampleRetry n h | timeout h => exact frameStep_of_toRetry h
  | readStatus h => cases h <;> rfl
  | badStatus d e h => exact congrArg some (frameStatus_of_check h f s)
  | endWrite d h0 h1 hpay | readPayload d n h0 h1 hpay =>
    exact congrArg some ((frameStatus_of_zero h0 h1 p f s).trans (by rw [frameEnd, hpay]))
  | store d n hpay => simp [frameStep, hpay]


/-! ## The moves of every command -/

/-- The bytes a command with no frame sends after its `BusSelect` (R109, R132, R133). -/
def plainBytes (p : Params) (i : Instr) (s : State) : Option (List Byte) :=
  match i with
  | .brConfig => some [p.opcCfg, p.speedByte s.cfg.speed]
  | .dtStart => some [p.dtCmdConvert]
  | .dtRead => some [p.dtCmdReadSp]
  | _ => none

/-- The moves of a command's pseudocode after its first step: those of BR_CONFIG, DT_START and DT_READ, and
those of the frame another command is in (R109 to R111, R132, R133, R143, R144, R161, R162). -/
inductive Move (p : Params) (i : Instr) (s : State) (held : Option (List Byte)) : Point → FrameStep → Prop
  | selectFailed (l : List Byte) (h : plainBytes p i s = some l) :
    Move p i s held (.selected false) (.raised s .busError)
  | send (l : List Byte) (h : plainBytes p i s = some l) :
    Move p i s held (.selected true) (.issued (busWrite l (.sent 1) s))
  | sendFailed (l : List Byte) (h : plainBytes p i s = some l) :
    Move p i s held (.sent 1 false) (.raised s .busError)
  | sent (h : i = .brConfig ∨ i = .dtStart) : Move p i s held (.sent 1 true) (.returned s [])
  | readScratchpad (h : i = .dtRead) :
    Move p i s held (.sent 1 true) (.issued (busRead scratchpadSize .gotPayload s))
  | readFailed (h : i = .dtRead) : Move p i s held (.gotPayload none) (.raised s .busError)
  | storeScratchpad (h : i = .dtRead) (d : List Byte) :
    Move p i s held (.gotPayload (some d)) (.returned (storePayload scratchpadSize d s) d)
  | frame {pt : Point} {r : FrameStep} (f : Frame) (hf : frameOf p i s held = some f)
    (h : FrameMove p f s pt r) : Move p i s held pt r

/-- The first step of a command whose arguments are legal (R21, R74). -/
def firstStep (p : Params) (i : Instr) (s : State) : State :=
  match i with
  | .nop => finish s
  | .crcByte => finish (s.setAcc (crc16Byte s.acc s.dataByte))
  | .crcBuf => finish (s.setAcc (crc16 s.acc s.lenBytes))
  | .dtDecode => dtResult .dtDecode s.data s
  | .btDecode => btResult s.data s
  | .lxDecode => lxResult p .lxDecode s.data s
  | .brConfig | .brWrite | .brRead | .dtStart | .dtRead | .btProbe | .btRead | .lxInit | .lxRead =>
    busSelect .selected s

/-- What the return of a command's pseudocode with the bytes `d` comes to (R109 to R111, R132, R133, R143, R144,
R161, R162). -/
def afterReturn (p : Params) (i : Instr) (held : Option (List Byte)) (t : State) (d : List Byte) : State :=
  match i with
  | .dtRead => if p.crc8 d = 0x00#8 then dtResult .dtRead (dtRaw d) t else raise .dtRead .checksumError t
  | .btProbe =>
    match held with
    | none => frameStart (t.hold d)
    | some r1 => probeVerdict p (btRaw r1) (btRaw d) t
  | .btRead => btResult (btRaw d) t
  | .lxRead => lxResult p .lxRead (lxRaw p d) t
  | _ => finish t

/-- What a failure of a command's pseudocode comes to: BT_PROBE answers with its negative verdict, every other
command raises it (R13, R143, R174). -/
def afterRaise (i : Instr) (t : State) (e : Failure) : State :=
  match i with
  | .btProbe => probeNo t
  | i => raise i e t

theorem afterRaise_of_ne_btProbe (hi : i ≠ .btProbe) (t : State) (e : Failure) :
    afterRaise i t e = raise i e t := by
  cases i with
  | btProbe => exact absurd rfl hi
  | _ => rfl

/-- The state after a move of command `i`. -/
def FrameStep.done (p : Params) (i : Instr) (held : Option (List Byte)) (r : FrameStep) : State :=
  r.into (afterReturn p i held) (afterRaise i)

/-- The first step of a command (R71, R74); BT_PROBE holds nothing yet. -/
theorem exec_firstStep (hs : s.seq = .run c ⟨.start, held⟩) (hheld : i = .btProbe → held = none) :
    exec i s = .next (checked Config.params i (firstStep Config.params i) s) := by
  cases s
  cases hs
  cases i with
  | btProbe => cases hheld rfl; rfl
  | _ => rfl

theorem exec_start_legal (hs : s.seq = .run c ⟨.start, none⟩) (hargs : argsIllegal Config.params i s = false) :
    exec i s = .next (firstStep Config.params i s) := by
  rw [exec_firstStep hs fun _ => rfl, checked_of_legal hargs]

theorem exec_idle (hs : s.seq = .idle) : exec i s = .fault .notRunning := by
  cases s
  cases hs
  cases i <;> rfl

theorem btProbe_start_held {d : List Byte} (hs : s.seq = .run c ⟨.start, some d⟩) :
    exec .btProbe s = .fault .badPosition := by
  cases s
  cases hs
  rfl

/-- A meaning at a given place: the state its pseudocode gives there. -/
theorem atPlace_next_at_iff {k : Point → Option State} (hs : s.seq = .run c ⟨pt, held⟩) :
    atPlace s k = .next t ↔ k pt = some t := by
  rw [atPlace_next_iff]
  refine ⟨fun ⟨c', p', hs', h⟩ => ?_, fun h => ⟨c, _, hs, h⟩⟩
  cases hs.symm.trans hs'
  exact h

/-- A command with no bus primitive has no place but its start (R21). -/
theorem single_ne_next {go : State → State} (hs : s.seq = .run c ⟨pt, held⟩) (hpt : pt ≠ .start) :
    single p i go s ≠ .next t := by
  rw [single, ne_eq, atPlace_next_at_iff hs]
  split
  · contradiction
  · nofun

theorem frameCommand_next_at_iff {g : State → Frame} {onReturn : State → List Byte → State}
    (hs : s.seq = .run c ⟨pt, held⟩) (hpt : pt ≠ .start) : frameCommand p i g onReturn s = .next t ↔
      ∃ r, frameStep p (g s) pt s = some r ∧ r.into onReturn (fun u e => raise i e u) = t := by
  rw [frameCommand, atPlace_next_at_iff hs]
  split
  · contradiction
  · exact Option.map_eq_some_iff

theorem btProbe_next_at_iff (hs : s.seq = .run c ⟨pt, held⟩) (hpt : pt ≠ .start)
    (hf : frameOf p .btProbe s held = some f) : btProbe p s = .next t ↔
      ∃ r, frameStep p f pt s = some r ∧ r.done p .btProbe held = t := by
  have hheld : s.seq.held = held := by rw [hs]; rfl
  rw [btProbe, atPlace_next_at_iff hs, hheld]
  cases hf
  split
  · contradiction
  · contradiction
  · exact Option.map_eq_some_iff
  · exact Option.map_eq_some_iff

/-- Past its start, a command that is in a frame does what the frame does. -/
theorem exec_frame_iff (hs : s.seq = .run c ⟨pt, held⟩) (hpt : pt ≠ .start)
    (hf : frameOf Config.params i s held = some f) : exec i s = .next t ↔
      ∃ r, FrameMove Config.params f s pt r ∧ r.done Config.params i held = t := by
  have hmove : ∀ r, frameStep Config.params f pt s = some r ↔ FrameMove Config.params f s pt r :=
    fun r => ⟨frameMove_of_frameStep, frameStep_of_frameMove⟩
  simp only [← hmove]
  cases i with
  | btProbe => exact btProbe_next_at_iff hs hpt hf
  | brWrite | brRead | btRead | lxInit | lxRead =>
    cases hf
    exact frameCommand_next_at_iff hs hpt
  | nop | crcByte | crcBuf | brConfig | dtStart | dtRead | dtDecode | btDecode | lxDecode => cases hf

theorem Move.ne_start (h : Move p i s held pt r) : pt ≠ .start := by
  rintro rfl
  cases h with
  | frame f hf h => cases frameStep_of_frameMove h

/-- Each of its moves is the command's step. -/
theorem exec_of_move (hs : s.seq = .run c ⟨pt, held⟩) (h : Move Config.params i s held pt r) :
    exec i s = .next (r.done Config.params i held) := by
  have hpt := h.ne_start
  cases h with
  | frame f hf h => exact (exec_frame_iff hs hpt hf).2 ⟨r, h, rfl⟩
  | sent h => cases s; cases hs; obtain rfl | rfl := h <;> rfl
  | readScratchpad h | readFailed h | storeScratchpad h => cases s; cases hs; cases h; rfl
  | selectFailed l h | send l h | sendFailed l h =>
    cases s
    cases hs
    cases i with
    | brConfig | dtStart | dtRead => cases h; rfl
    | _ => cases h

/-- A step that needs an ok answer, as the two moves it can be. -/
theorem move_of_orBusError {ok : Bool} {go : State → State} {q : Bool → Point} (hi : i ≠ .btProbe)
    (h : some (orBusError i ok go s) = some t) (hfail : Move p i s held (q false) (.raised s .busError))
    (hgo : Move p i s held (q true) r) (hr : go s = r.done p i held) :
    ∃ r, Move p i s held (q ok) r ∧ t = r.done p i held := by
  cases ok with
  | true => exact ⟨_, hgo, (Option.some.inj h).symm.trans hr⟩
  | false =>
    exact ⟨_, hfail, (Option.some.inj h).symm.trans (afterRaise_of_ne_btProbe hi s .busError).symm⟩

/-- After its start a command has no other step than its moves. -/
theorem move_of_exec (hs : s.seq = .run c ⟨pt, held⟩) (hpt : pt ≠ .start) (h : exec i s = .next t) :
    ∃ r, Move Config.params i s held pt r ∧ t = r.done Config.params i held := by
  cases i with
  | nop | crcByte | crcBuf | dtDecode | btDecode | lxDecode => exact absurd h (single_ne_next hs hpt)
  | brWrite | brRead | btProbe | btRead | lxInit | lxRead =>
    obtain ⟨r, hr, ht⟩ := (exec_frame_iff hs hpt rfl).1 h
    exact ⟨r, .frame _ rfl hr, ht.symm⟩
  | brConfig =>
    rw [exec, execBrConfig, brConfig, atPlace_next_at_iff hs] at h
    split at h
    · contradiction
    · exact move_of_orBusError (q := .selected) nofun h (.selectFailed _ rfl) (.send _ rfl) rfl
    · exact move_of_orBusError (q := .sent 1) nofun h (.sendFailed _ rfl) (.sent (.inl rfl)) rfl
    · cases h
  | dtStart =>
    rw [exec, execDtStart, dtStart, atPlace_next_at_iff hs] at h
    split at h
    · contradiction
    · exact move_of_orBusError (q := .selected) nofun h (.selectFailed _ rfl) (.send _ rfl) rfl
    · exact move_of_orBusError (q := .sent 1) nofun h (.sendFailed _ rfl) (.sent (.inr rfl)) rfl
    · cases h
  | dtRead =>
    rw [exec, execDtRead, dtRead, atPlace_next_at_iff hs] at h
    split at h
    · contradiction
    · exact move_of_orBusError (q := .selected) nofun h (.selectFailed _ rfl) (.send _ rfl) rfl
    · exact move_of_orBusError (q := .sent 1) nofun h (.sendFailed _ rfl) (.readScratchpad rfl) rfl
    · exact ⟨_, .readFailed rfl, (Option.some.inj h).symm⟩
    · exact ⟨_, .storeScratchpad rfl _, (Option.some.inj h).symm⟩
    · cases h

/-- What one step of a command can be: its argument check and first step, or one of its moves (R21, R71). -/
theorem exec_cases (h : exec i s = .next t) : ∃ c pt held, s.seq = .run c ⟨pt, held⟩ ∧
    ((pt = .start ∧ t = checked Config.params i (firstStep Config.params i) s) ∨
      ∃ r, Move Config.params i s held pt r ∧ t = r.done Config.params i held) := by
  cases hs : s.seq with
  | idle => simp [exec_idle hs] at h
  | run c pos =>
    obtain ⟨pt, held⟩ := pos
    refine ⟨c, pt, held, rfl, ?_⟩
    by_cases hpt : pt = .start
    · subst hpt
      by_cases hheld : i = .btProbe → held = none
      · exact .inl ⟨rfl, Host.Outcome.next.inj (h.symm.trans (exec_firstStep hs hheld))⟩
      · obtain ⟨rfl, hne⟩ := Classical.not_imp.1 hheld
        obtain ⟨d, rfl⟩ := Option.ne_none_iff_exists'.1 hne
        simp [btProbe_start_held hs] at h
    · exact .inr (move_of_exec hs hpt h)

end Sys2Proof.Machine
end

section
/-! What one engine step of a command can come to, said once (spec/10_state.md R21, spec/30_encoding.md R76,
spec/60_exceptions.md R171 to R174): one primitive with the command still running, or its completion; and what
either leaves alone. -/

namespace Sys2Proof.Machine

variable {p : Params} {f : Frame} {i : Instr} {s t u : State} {c : Word} {pt : Point}
  {held : Option (List Byte)} {r : FrameStep} {d : List Byte} {e : Failure}

/-! ## Completions -/

/-- The failures a command can raise (R172); BT_PROBE answers with its negative verdict where its frames fail. -/
def failuresOf : Instr → List Failure
  | .nop | .crcByte | .crcBuf | .btDecode | .lxDecode | .btProbe => [.illegalCommand]
  | .brConfig | .dtStart => [.busError, .illegalCommand]
  | .brWrite | .brRead | .btRead | .lxInit | .lxRead =>
    [.busError, .checksumError, .timeoutError, .illegalCommand]
  | .dtRead => [.busError, .checksumError, .rangeError, .illegalCommand]
  | .dtDecode => [.rangeError, .illegalCommand]

/-- The completions of command `i` in state `u` (R31, R143, R173, R174). -/
inductive Ending (i : Instr) (u : State) : State → Prop
  | success (hi : resultProducing i = false) : Ending i u (finish u)
  | result (v : Word) (hi : resultProducing i = true) (hmin : -2560 ≤ v.toInt) (hmax : v.toInt ≤ 4294836) :
    Ending i u (finish (u.setResult v))
  | mismatch (hi : i = .btProbe) : Ending i u (probeNo u)
  | failure (e : Failure) (he : e ∈ failuresOf i) : Ending i u (raise i e u)

/-- Every completion writes RESULT, STATUS and SEQ at most (R173, R174). -/
theorem Ending.completion (h : Ending i u t) : ∃ v err code, t = (u.setResult v).complete err code := by
  cases h with
  | success => exact ⟨u.result, _, _, rfl⟩
  | result v => exact ⟨v, _, _, rfl⟩
  | mismatch => exact ⟨0#32, _, _, rfl⟩
  | failure e => exact ⟨_, _, _, raise_eq i e u⟩

theorem Ending.seq_idle (h : Ending i u t) : t.seq = .idle := by
  obtain ⟨v, err, code, rfl⟩ := h.completion
  rfl

theorem Ending.env_eq (h : Ending i u t) : t.env = u.env := by
  obtain ⟨v, err, code, rfl⟩ := h.completion
  rfl

theorem Ending.not_busy (h : Ending i u t) : t.status.busy = false := by
  obtain ⟨v, err, code, rfl⟩ := h.completion
  rfl

/-- A completion of a command that produces no result keeps RESULT (R76). -/
theorem Ending.result_eq (h : Ending i u t) (hi : resultProducing i = false) : t.result = u.result := by
  cases h with
  | success => rfl
  | result v hr => simp [hi] at hr
  | mismatch hm => subst hm; cases hi
  | failure e => simp [raise_eq, hi]

theorem illegalCommand_mem_failuresOf (i : Instr) : .illegalCommand ∈ failuresOf i := by
  cases i <;> decide

theorem dtResult_ending (hi : i = .dtRead ∨ i = .dtDecode) (raw : Half) (u : State) :
    Ending i u (dtResult i raw u) := by
  have hproduces : resultProducing i = true := by obtain rfl | rfl := hi <;> rfl
  have hrange : Failure.rangeError ∈ failuresOf i := by obtain rfl | rfl := hi <;> decide
  rw [dtResult]
  cases hv : dtConv raw with
  | none => exact .failure _ hrange
  | some v =>
    obtain ⟨-, hmin, hmax⟩ := dtConv_eq_some hv
    have hint : (BitVec.ofInt 32 v).toInt = v := toInt_ofInt_word (by omega) (by omega)
    exact .result _ hproduces (by omega) (by omega)

theorem btResult_ending (hi : resultProducing i = true) (raw : Half) (u : State) :
    Ending i u (btResult raw u) := by
  obtain ⟨hmin, hmax⟩ := btConv_bounds raw
  have hint : (BitVec.ofInt 32 (btConv raw)).toInt = btConv raw := toInt_ofInt_word (by omega) (by omega)
  exact .result _ hi (by omega) (by omega)

theorem lxResult_ending (hi : resultProducing i = true) (raw : Half) (u : State) :
    Ending i u (lxResult Config.params i raw u) := by
  rw [lxResult]
  cases hf : lxFactor Config.params u.gainIndex u.timeIndex with
  | none => exact .failure _ (illegalCommand_mem_failuresOf i)
  | some f =>
    obtain ⟨a, b, ha, hb, rfl⟩ := lxFactor_eq_some hf
    have hle := lxConv_le (factor_le ha hb) raw
    have hint := toInt_ofNat_word (n := lxConv raw (36 * a * b)) (by omega)
    exact .result _ hi (by omega) (by omega)

theorem probeVerdict_ending (p : Params) (mfr dev : Half) (u : State) :
    Ending .btProbe u (probeVerdict p mfr dev u) := by
  rw [probeVerdict]
  split
  · exact .result 1#32 rfl (by decide) (by decide)
  · exact .mismatch rfl

/-- A failure the pseudocode raises completes the command. -/
theorem afterRaise_ending (he : i ≠ .btProbe → e ∈ failuresOf i) (u : State) :
    Ending i u (afterRaise i u e) := by
  by_cases hi : i = .btProbe
  · subst hi
    exact .mismatch rfl
  · rw [afterRaise_of_ne_btProbe hi]
    exact .failure e (he hi)

/-! ## The commands that use the bus -/

/-- The commands that send frames (R110, R111, R143, R144, R161, R162). -/
def frameCommands : List Instr := [.brWrite, .brRead, .btProbe, .btRead, .lxInit, .lxRead]

/-- The commands with bus primitives: the others have one step, their completion (R21). -/
def busCommands : List Instr :=
  [.brConfig, .brWrite, .brRead, .dtStart, .dtRead, .btProbe, .btRead, .lxInit, .lxRead]

theorem mem_frameCommands_of_frameOf (hf : frameOf p i s held = some f) : i ∈ frameCommands := by
  cases i with
  | brWrite | brRead | btProbe | btRead | lxInit | lxRead => decide
  | _ => cases hf

theorem mem_busCommands_of_plainBytes {l : List Byte} (hl : plainBytes p i s = some l) :
    i ∈ busCommands := by
  cases i with
  | brConfig | dtStart | dtRead => decide
  | _ => cases hl

theorem Move.mem_busCommands (h : Move p i s held pt r) : i ∈ busCommands := by
  cases h with
  | selectFailed l hl | send l hl | sendFailed l hl => exact mem_busCommands_of_plainBytes hl
  | sent h => obtain rfl | rfl := h <;> decide
  | readScratchpad h | readFailed h | storeScratchpad h => subst h; decide
  | frame f hf h =>
    have hsub : ∀ j ∈ frameCommands, j ∈ busCommands := by decide
    exact hsub i (mem_frameCommands_of_frameOf hf)

theorem firstStep_of_bus (hi : i ∈ busCommands) (p : Params) (s : State) :
    firstStep p i s = busSelect .selected s := by
  cases i with
  | nop | crcByte | crcBuf | dtDecode | btDecode | lxDecode => exact absurd hi (by decide)
  | _ => rfl

/-- A return completes the command too, but for the first of BT_PROBE's two frames (R143). -/
theorem afterReturn_ending (hi : i ∈ busCommands) (hheld : i = .btProbe → held ≠ none) (u : State)
    (d : List Byte) : Ending i u (afterReturn Config.params i held u d) := by
  cases i with
  | btProbe =>
    cases held with
    | none => exact absurd rfl (hheld rfl)
    | some r1 => exact probeVerdict_ending _ _ _ u
  | dtRead =>
    rw [afterReturn]
    split
    · exact dtResult_ending (.inl rfl) _ u
    · exact .failure _ (by decide)
  | btRead => exact btResult_ending rfl _ u
  | lxRead => exact lxResult_ending rfl _ u
  | brConfig | brWrite | brRead | dtStart | lxInit => exact .success rfl
  | nop | crcByte | crcBuf | dtDecode | btDecode | lxDecode => exact absurd hi (by decide)

/-! ## What a command does before its completion -/

/-- The environment after one bus primitive (R12). -/
def OneEvent (e e' : Env) : Prop :=
  (∃ ev, e' = e.after e.answers.tail 1 [ev]) ∨ ∃ us, e' = e.after e.answers 0 [.sleep us]

/-- The payload bytes a reading command stores (R34). -/
def payloadSize (i : Instr) (s : State) : Option Nat :=
  match i with
  | .brRead => some s.len
  | .dtRead => some 9
  | .btProbe | .btRead | .lxRead => some 2
  | _ => none

/-- What a command's work keeps, before its completion or up to its next place (R34, R59, R76). -/
structure Works (i : Instr) (s t : State) : Prop where
  keeps : FrameKeeps s t
  acc : i ∈ [Instr.nop, .brConfig, .dtStart, .dtRead, .dtDecode, .btDecode, .lxDecode] → t.acc = s.acc
  brstat : i ∉ frameCommands → t.brstat = s.brstat
  buf : t.buf = s.buf ∨ ∃ c d held n, s.seq = .run c ⟨.gotPayload (some d), held⟩ ∧
    payloadSize i s = some n ∧ t.buf = s.buf.writeList 0 (d.take n)

theorem FrameKeeps.refl (s : State) : FrameKeeps s s := by constructor <;> rfl

theorem Works.of_keeps (hkeeps : FrameKeeps s t) (hacc : t.acc = s.acc) (hbrstat : t.brstat = s.brstat)
    (hbuf : t.buf = s.buf) : Works i s t :=
  ⟨hkeeps, fun _ => hacc, fun _ => hbrstat, .inl hbuf⟩

theorem Works.refl (i : Instr) (s : State) : Works i s s := .of_keeps (.refl s) rfl rfl rfl

theorem Works.setAcc
    (hi : i ∉ [Instr.nop, .brConfig, .dtStart, .dtRead, .dtDecode, .btDecode, .lxDecode]) (v : Half)
    (s : State) : Works i s (s.setAcc v) :=
  ⟨by constructor <;> rfl, fun h => absurd h hi, fun _ => rfl, .inl rfl⟩

/-- A frame's work is its own to do in CRC.ACC and BRSTAT (R76). -/
theorem Works.of_frame (hi : i ∈ frameCommands) (hkeeps : FrameKeeps s t) (hbuf : t.buf = s.buf ∨
    ∃ c d held n, s.seq = .run c ⟨.gotPayload (some d), held⟩ ∧ payloadSize i s = some n ∧
      t.buf = s.buf.writeList 0 (d.take n)) : Works i s t := by
  refine ⟨hkeeps, fun hacc => ?_, fun h => absurd hi h, hbuf⟩
  have hdisjoint : ∀ j ∈ frameCommands,
      j ∉ [Instr.nop, .brConfig, .dtStart, .dtRead, .dtDecode, .btDecode, .lxDecode] := by decide
  exact absurd hacc (hdisjoint i hi)

theorem payload_of_frameOf (hf : frameOf p i s held = some f) : f.payload = payloadSize i s := by
  cases i with
  | brWrite | brRead | btRead | lxInit | lxRead => cases hf; rfl
  | btProbe => cases hf; cases held <;> rfl
  | _ => cases hf

/-- A frame's move stores only a payload. -/
theorem FrameMove.buf_cases (h : FrameMove p f s pt r) : r.state.buf = s.buf ∨ ∃ d n,
    pt = .gotPayload (some d) ∧ f.payload = some n ∧ r.state.buf = s.buf.writeList 0 (d.take n) := by
  cases h with
  | store d n hpay => exact .inr ⟨d, n, rfl, hpay, rfl⟩
  | sendFirst | sendNext => left; rw [FrameStep.state, frameSend]; split <;> rfl
  | _ => exact .inl rfl

theorem Move.works (hs : s.seq = .run c ⟨pt, held⟩) (h : Move p i s held pt r) : Works i s r.state := by
  cases h with
  | selectFailed | sendFailed | sent | readFailed => exact .refl i s
  | send | readScratchpad => exact .of_keeps (by constructor <;> rfl) rfl rfl rfl
  | storeScratchpad hi d =>
    subst hi
    exact ⟨by constructor <;> rfl, fun _ => rfl, fun _ => rfl, .inr ⟨c, d, held, 9, hs, rfl, rfl⟩⟩
  | frame f hf h =>
    refine .of_frame (mem_frameCommands_of_frameOf hf)
      (frameStep_keeps p f pt s r (frameStep_of_frameMove h)) (h.buf_cases.imp_right ?_)
    rintro ⟨d, n, rfl, hpay, hbuf⟩
    exact ⟨c, d, held, n, hs, (payload_of_frameOf hf).symm.trans hpay, hbuf⟩

theorem frameSend_place (f : Frame) (k : Nat) (s : State) :
    (∃ q, (frameSend f k s).seq = s.seq.goto q) ∧ OneEvent s.env (frameSend f k s).env := by
  rw [frameSend]
  split <;> exact ⟨⟨_, rfl⟩, .inl ⟨_, rfl⟩⟩

/-- A primitive is one event, and the command goes on at another place (R21). -/
theorem Move.issued_place (h : Move p i s held pt (.issued t)) :
    (∃ q, t.seq = s.seq.goto q) ∧ OneEvent s.env t.env := by
  cases h with
  | send | readScratchpad => exact ⟨⟨_, rfl⟩, .inl ⟨_, rfl⟩⟩
  | frame f hf h =>
    cases h with
    | sendFirst | sendNext => exact frameSend_place f _ s
    | sleepExpected | sleepRetry => exact ⟨⟨_, rfl⟩, .inr ⟨_, rfl⟩⟩
    | sample | sampleRetry | readStatus | readPayload => exact ⟨⟨_, rfl⟩, .inl ⟨_, rfl⟩⟩

/-- A return issues no primitive and moves nothing yet. -/
theorem Move.returned_place (h : Move p i s held pt (.returned u d)) :
    u.seq = s.seq ∧ u.env = s.env := by
  cases h with
  | sent | storeScratchpad => exact ⟨rfl, rfl⟩
  | frame f hf h => cases h <;> exact ⟨rfl, rfl⟩

/-- A failure issues no primitive either, and is one that R172 names. -/
theorem Move.raised_place (h : Move p i s held pt (.raised u e)) :
    u.env = s.env ∧ (i ≠ .btProbe → e ∈ failuresOf i) := by
  have hplain : ∀ l, plainBytes p i s = some l → i ≠ .btProbe → .busError ∈ failuresOf i := by
    intro l hl _
    cases i with
    | brConfig | dtStart | dtRead => decide
    | _ => cases hl
  have hframe : ∀ j ∈ frameCommands, j ≠ .btProbe →
      .busError ∈ failuresOf j ∧ .checksumError ∈ failuresOf j ∧ .timeoutError ∈ failuresOf j := by decide
  cases h with
  | selectFailed l hl | sendFailed l hl => exact ⟨rfl, hplain l hl⟩
  | readFailed hi => subst hi; exact ⟨rfl, by decide⟩
  | frame f hf h =>
    have hi := hframe i (mem_frameCommands_of_frameOf hf)
    cases h with
    | failed => exact ⟨rfl, fun hne => (hi hne).1⟩
    | timeout => exact ⟨rfl, fun hne => (hi hne).2.2⟩
    | badStatus d e h =>
      obtain ⟨-, rfl⟩ := statusCheck_some _ _ _ h
      refine ⟨rfl, fun hne => ?_⟩
      split
      · exact (hi hne).2.1
      · exact (hi hne).1

/-! ## The two outcomes of an engine step -/

/-- One primitive is issued and the command runs on (R21). -/
structure Issues (i : Instr) (s t : State) : Prop where
  works : Works i s t
  place : ∃ c p q, s.seq = .run c p ∧ t.seq = .run c q
  event : OneEvent s.env t.env

/-- The command completes after its last computation (R21, R173, R174). -/
def Ends (i : Instr) (s t : State) : Prop := ∃ u, Works i s u ∧ u.env = s.env ∧ Ending i u t

theorem Ends.intro (hworks : Works i s u) (henv : u.env = s.env) (h : Ending i u t) : Ends i s t :=
  ⟨u, hworks, henv, h⟩

theorem busSelect_issues (hs : s.seq = .run c ⟨pt, held⟩) : Issues i s (busSelect .selected s) where
  works := .of_keeps (by constructor <;> rfl) rfl rfl rfl
  place := ⟨c, _, _, hs, by rw [busSelect_seq, hs, Seq.goto_run]⟩
  event := .inl ⟨_, rfl⟩

theorem Ends.idle (h : Ends i s t) : t.seq = .idle ∧ t.status.busy = false := by
  obtain ⟨u, -, -, hend⟩ := h
  exact ⟨hend.seq_idle, hend.not_busy⟩

theorem raise_ends (he : e ∈ failuresOf i) (s : State) : Ends i s (raise i e s) :=
  .intro (.refl i s) rfl (.failure e he)

/-- The first step of a command that has no bus primitive completes it (R21). -/
theorem firstStep_ends (hi : i ∉ busCommands) (s : State) : Ends i s (firstStep Config.params i s) := by
  cases i with
  | nop => exact .intro (.refl _ s) rfl (.success rfl)
  | crcByte => exact .intro (.setAcc (by decide) (crc16Byte s.acc s.dataByte) s) rfl (.success rfl)
  | crcBuf => exact .intro (.setAcc (by decide) (crc16 s.acc s.lenBytes) s) rfl (.success rfl)
  | dtDecode => exact .intro (.refl _ s) rfl (dtResult_ending (.inr rfl) _ s)
  | btDecode => exact .intro (.refl _ s) rfl (btResult_ending rfl _ s)
  | lxDecode => exact .intro (.refl _ s) rfl (lxResult_ending rfl _ s)
  | brConfig | brWrite | brRead | dtStart | dtRead | btProbe | btRead | lxInit | lxRead =>
    exact absurd (by decide) hi

/-- BT_PROBE's second frame starts with the first one's bytes held (R143). -/
theorem probe_secondFrame_issues (hs : s.seq = .run c ⟨pt, none⟩)
    (h : Move p .btProbe s none pt (.returned u d)) : Issues .btProbe s (frameStart (u.hold d)) := by
  have hworks : Works .btProbe s u := h.works hs
  obtain ⟨hseq, henv⟩ := h.returned_place
  obtain ⟨hcmd, hstatus, hlo, hhi, hxfer, hdata, hcfg, hresult⟩ := hworks.keeps
  refine ⟨.of_frame (by decide) ⟨hcmd, hstatus, hlo, hhi, hxfer, hdata, hcfg, hresult⟩ hworks.buf,
    ⟨c, _, ⟨.selected (u.hold d).answer.ok, some d⟩, hs, ?_⟩,
    .inl ⟨.select u.deviceId (u.hold d).answer.ok, ?_⟩⟩
  · show (u.seq.hold d).goto _ = _
    rw [hseq, hs]
    rfl
  · rw [← henv]
    rfl

/-- A failure of the pseudocode completes the command. -/
theorem Move.raised_ends (hs : s.seq = .run c ⟨pt, held⟩) (h : Move p i s held pt (.raised u e)) :
    Ends i s (afterRaise i u e) := by
  obtain ⟨henv, he⟩ := h.raised_place
  exact .intro (h.works hs) henv (afterRaise_ending he u)

theorem Move.returned_ends (hs : s.seq = .run c ⟨pt, held⟩) (h : Move p i s held pt (.returned u d))
    (hheld : i = .btProbe → held ≠ none) : Ends i s (afterReturn Config.params i held u d) :=
  .intro (h.works hs) h.returned_place.2 (afterReturn_ending h.mem_busCommands hheld u d)

/-- One engine step of a command is one primitive or the completion (R21). -/
theorem exec_outcome (h : exec i s = .next t) : Issues i s t ∨ Ends i s t := by
  obtain ⟨c, pt, held, hs, ⟨-, rfl⟩ | ⟨r, hr, rfl⟩⟩ := exec_cases h
  · obtain ⟨-, h⟩ | ⟨-, h⟩ := checked_cases Config.params i (firstStep Config.params i) s
    · rw [h]
      exact .inr (raise_ends (illegalCommand_mem_failuresOf i) s)
    · rw [h]
      by_cases hi : i ∈ busCommands
      · rw [firstStep_of_bus hi]
        exact .inl (busSelect_issues hs)
      · exact .inr (firstStep_ends hi s)
  · cases r with
    | issued t =>
      obtain ⟨⟨q, hq⟩, hevent⟩ := hr.issued_place
      exact .inl ⟨hr.works hs, ⟨c, _, _, hs, by rw [FrameStep.done, FrameStep.into, hq, hs, Seq.goto_run]⟩,
        hevent⟩
    | raised u e => exact .inr (hr.raised_ends hs)
    | returned u d =>
      by_cases hheld : i = .btProbe → held ≠ none
      · exact .inr (hr.returned_ends hs hheld)
      · obtain ⟨rfl, hnone⟩ := Classical.not_imp.1 hheld
        obtain rfl := not_not.1 hnone
        exact .inl (probe_secondFrame_issues hs hr)

/-! ## The statements -/

theorem OneEvent.host_eq {e e' : Env} (h : OneEvent e e') :
    e'.host = e.host ∧ e'.turns = e.turns ∧ e'.reads = e.reads := by
  obtain ⟨ev, rfl⟩ | ⟨us, rfl⟩ := h <;> exact ⟨rfl, rfl, rfl⟩

/-- A step that leaves the command idle was its completion. -/
theorem exec_ends (h : exec i s = .next t) (ht : t.seq = .idle) :
    ∃ u, Works i s u ∧ u.env = s.env ∧ Ending i u t := by
  obtain h | h := exec_outcome h
  · obtain ⟨c, p, q, -, hq⟩ := h.place
    cases ht.symm.trans hq
  · exact h

/-- What the command's work leaves in CRC.ACC, BRSTAT and BUF its completion keeps, and RESULT where it produces
none (R76). -/
theorem exec_kept (h : exec i s = .next t) : ∃ u, Works i s u ∧ t.acc = u.acc ∧ t.brstat = u.brstat ∧
    t.buf = u.buf ∧ (resultProducing i = false → t.result = u.result) := by
  obtain h | ⟨u, hworks, -, hend⟩ := exec_outcome h
  · exact ⟨t, h.works, rfl, rfl, rfl, fun _ => rfl⟩
  · refine ⟨u, hworks, ?_, ?_, ?_, hend.result_eq⟩
    all_goals
      obtain ⟨v, err, code, rfl⟩ := hend.completion
      rfl

theorem Works.buf_of_payloadSize_none (h : Works i s t) (hi : payloadSize i s = none) : t.buf = s.buf := by
  obtain hbuf | ⟨c, d, held, n, -, hn, -⟩ := h.buf
  · exact hbuf
  · cases hi.symm.trans hn

/-- The commands that read no payload (R34). -/
theorem payloadSize_of_not_reading (hi : i ∈ [Instr.nop, .crcByte, .crcBuf, .brConfig, .brWrite, .dtStart,
    .dtDecode, .btDecode, .lxInit, .lxDecode]) (s : State) : payloadSize i s = none := by
  cases i with
  | brRead | dtRead | btProbe | btRead | lxRead => exact absurd hi (by decide)
  | _ => rfl

/-- Settles O12, from the two outcomes of a step. -/
theorem engineStepIsOnePrimitiveOrCompletion : Obligations.EngineStepIsOnePrimitiveOrCompletion := by
  intro i s t h
  obtain h | ⟨u, hworks, henv, hend⟩ := exec_outcome h
  · obtain ⟨c, p, q, hs, ht⟩ := h.place
    exact .inr ⟨c, p, q, hs, ht, h.works.keeps.status, h.works.keeps.result, h.event⟩
  · exact .inl ⟨hend.seq_idle, hend.not_busy, hend.env_eq.trans henv⟩

/-- Settles O20. -/
theorem commandsKeepTheirOperands : Obligations.CommandsKeepTheirOperands := by
  intro i s t h
  obtain h | ⟨u, hworks, henv, hend⟩ := exec_outcome h
  · obtain ⟨hcmd, hstatus, hlo, hhi, hxfer, hdata, hcfg, -⟩ := h.works.keeps
    exact ⟨hcmd, hlo, hhi, hxfer, hdata, hcfg, by rw [hstatus], h.event.host_eq⟩
  · obtain ⟨hcmd, hstatus, hlo, hhi, hxfer, hdata, hcfg, -⟩ := hworks.keeps
    obtain ⟨v, err, code, rfl⟩ := hend.completion
    refine ⟨hcmd, hlo, hhi, hxfer, hdata, hcfg, congrArg (·.wign) hstatus, ?_⟩
    rw [hend.env_eq, henv]
    exact ⟨rfl, rfl, rfl⟩

/-- Settles O21: a completion writes none of the three, and RESULT only where the command produces results. -/
theorem onlyTheListedCommandsWrite : Obligations.OnlyTheListedCommandsWrite := by
  intro i s t h
  have hbrstat : ∀ j ∈ [Instr.nop, .crcByte, .crcBuf, .brConfig, .dtStart, .dtRead, .dtDecode, .btDecode,
      .lxDecode], j ∉ frameCommands := by decide
  have hproduces : ∀ j ∈ [Instr.nop, .crcByte, .crcBuf, .brConfig, .brWrite, .brRead, .dtStart, .lxInit],
      resultProducing j = false := by decide
  obtain ⟨u, hworks, hacc, hst, hbuf, hresult⟩ := exec_kept h
  refine ⟨fun hi => hacc.trans (hworks.acc hi), fun hi => hst.trans (hworks.brstat (hbrstat i hi)),
    fun hi a => ?_, fun hi => (hresult (hproduces i hi)).trans hworks.keeps.result⟩
  rw [hbuf, hworks.buf_of_payloadSize_none (payloadSize_of_not_reading hi s)]

/-- Settles O22: the bytes a payload's store leaves alone are those from its count on. -/
theorem readingCommandsStoreOnlyTheirBytes : Obligations.ReadingCommandsStoreOnlyTheirBytes := by
  intro i s t n h hwf hin
  have hn : payloadSize i s = some n := by
    simp only [List.mem_cons, Prod.mk.injEq, List.not_mem_nil, or_false] at hin
    obtain ⟨rfl, rfl⟩ | ⟨rfl, rfl⟩ | ⟨rfl, rfl⟩ | ⟨rfl, rfl⟩ | ⟨rfl, rfl⟩ := hin <;> rfl
  obtain ⟨u, hworks, -, -, hbuf, -⟩ := exec_kept h
  rw [hbuf]
  obtain hkept | ⟨c, d, held, m, hs, hm, hstored⟩ := hworks.buf
  · exact ⟨fun a _ => by rw [hkept], fun _ => hkept⟩
  · obtain rfl := Option.some.inj (hn.symm.trans hm)
    refine ⟨fun a ha => ?_, fun hno => absurd hs (hno c d held)⟩
    rw [hstored]
    exact storePayload_frame n d s a hwf ha

/-- Settles O23, completion by completion. -/
theorem codesOfEachCommand : Obligations.CodesOfEachCommand := by
  intro i s t h ht
  obtain ⟨u, hworks, henv, hend⟩ := exec_ends h ht
  have hwign : u.status.wign = s.status.wign := by rw [hworks.keeps.status]
  cases hend with
  | success => exact ⟨rfl, hwign, .inl ⟨rfl, rfl⟩⟩
  | result v => exact ⟨rfl, hwign, .inl ⟨rfl, rfl⟩⟩
  | mismatch hi => exact ⟨rfl, hwign, .inr (.inl ⟨hi, rfl, rfl⟩)⟩
  | failure e he =>
    rw [raise_status]
    refine ⟨rfl, hwign, .inr (.inr ⟨rfl, ?_⟩)⟩
    have hcode : e.code ∈ (failuresOf i).map Failure.code := List.mem_map_of_mem he
    cases i <;> exact hcode

/-- Settles O24: of the completions only a failure has ERR 1. -/
theorem failureCompletionAndResult : Obligations.FailureCompletionAndResult := by
  intro i s t h ht herr
  obtain ⟨u, hworks, henv, hend⟩ := exec_ends h ht
  refine ⟨hend.env_eq.trans henv, ?_⟩
  cases hend with
  | success | result | mismatch => cases herr
  | failure e he =>
    have hlist : resultProducing i = true ↔
        i ∈ [Instr.dtRead, .dtDecode, .btProbe, .btRead, .btDecode, .lxRead, .lxDecode] := by
      cases i <;> decide
    have hcode : e ≠ .illegalCommand ↔ e.code ≠ 6#3 := by cases e <;> decide
    rw [raise_eq, ← hworks.keeps.result]
    simp only [hlist, hcode]
    rfl

end Sys2Proof.Machine
end

section
/-! The places a running command goes through (spec/10_state.md R35): every step from a place of its pseudocode is
possible, leads to another such place, and brings the completion nearer (spec/70_reset_and_hazards.md R205). -/

namespace Sys2Proof.Machine

variable {p : Params} {f : Frame} {i : Instr} {s t u : State} {c : Word} {pt : Point} {pos : Pos}
  {held : Option (List Byte)} {r : FrameStep} {d : List Byte} {n : Nat}

/-! ## What the places depend on -/

theorem argsIllegal_congr (hcfg : t.cfg = s.cfg) (hxfer : t.xfer = s.xfer) (p : Params) (i : Instr) :
    argsIllegal p i t = argsIllegal p i s := by
  cases s
  cases t
  cases hcfg
  cases hxfer
  cases i <;> rfl

theorem frameOf_congr (hcfg : t.cfg = s.cfg) (hxfer : t.xfer = s.xfer) (hbuf : i = .brWrite → t.buf = s.buf)
    (p : Params) (held : Option (List Byte)) : frameOf p i t held = frameOf p i s held := by
  cases i <;> simp_all [frameOf, brWriteFrame, brReadFrame, btFrame, lxInitFrame, lxReadFrame, State.lenBytes,
    State.len, State.gainIndex, State.timeIndex]

/-- BR_WRITE reads BUF and never writes it, so a command's work leaves its frame as it was. -/
theorem Works.frameOf_eq (h : Works i s t) (p : Params) (held : Option (List Byte)) :
    frameOf p i t held = frameOf p i s held :=
  frameOf_congr h.keeps.cfg h.keeps.xfer (fun hi => by subst hi; exact h.buf_of_payloadSize_none rfl) p held

/-! ## The places of a frame -/

theorem hasLength_readAnswer (n : Nat) (s : State) : hasLength n (s.readAnswer n) := by
  intro l hl
  rw [State.readAnswer] at hl
  split at hl
  · cases hl
    exact answerBytes_length s n
  · cases hl

/-- The next place of a frame's `BusWrite`: after the next bytes, or, when there are none, after the trailer
(R103). -/
theorem frameSend_cases (f : Frame) (k : Nat) (s : State) :
    (k < f.chunks.length ∧ (frameSend f k s).seq = s.seq.goto (.sent (k + 1) s.answer.ok)) ∨
      (f.chunks.length ≤ k ∧ (frameSend f k s).seq = s.seq.goto (.sentTrailer s.answer.ok)) := by
  rw [frameSend]
  split
  next l hl => exact .inl ⟨(List.getElem?_eq_some_iff.1 hl).1, rfl⟩
  next hl => exact .inr ⟨List.getElem?_eq_none_iff.1 hl, rfl⟩

theorem ToExpected.bounds (h : ToExpected f n pt) (hpt : f.hasPlace p pt) :
    n ≤ f.expected ∧ n + 2 * p.retry + f.endSteps ≤ f.stepsLeft p pt := by
  cases h with
  | first h => subst h; exact ⟨Nat.le_refl _, by simp only [Frame.stepsLeft]; omega⟩
  | slept => exact ⟨Nat.le_of_lt hpt, by simp only [Frame.stepsLeft]; omega⟩

theorem ToRetry.bounds (h : ToRetry p f n pt) (hpt : f.hasPlace p pt) :
    n ≤ p.retry ∧ 2 * n + f.endSteps ≤ f.stepsLeft p pt := by
  cases h with
  | waited hn h =>
    have hbounds := h.bounds hpt
    omega
  | slept => exact ⟨Nat.le_of_lt hpt, by simp only [Frame.stepsLeft]; omega⟩

/-- Where a primitive of a frame leads: to a place of the frame with fewer steps left, and to the payload only
after two zero status bytes (R104, R105, R108). -/
structure FrameNext (p : Params) (f : Frame) (s : State) (pt : Point) (t : State) (q : Point) : Prop where
  seq : t.seq = s.seq.goto q
  place : f.hasPlace p q
  nearer : f.stepsLeft p q < f.stepsLeft p pt
  zeroStatus : ∀ d, q = .gotPayload d → t.brstat = ⟨0x00#8, 0x00#8⟩

theorem FrameMove.issued_next (h : FrameMove p f s pt (.issued t)) (hpt : f.hasPlace p pt) :
    ∃ q, FrameNext p f s pt t q := by
  cases h with
  | sendFirst =>
    obtain ⟨hk, hseq⟩ | ⟨-, hseq⟩ := frameSend_cases f 0 s
    · exact ⟨_, hseq, ⟨by omega, by omega⟩, by simp only [Frame.stepsLeft]; omega, nofun⟩
    · exact ⟨_, hseq, trivial, by simp only [Frame.stepsLeft]; omega, nofun⟩
  | sendNext k =>
    obtain ⟨hk, hseq⟩ | ⟨-, hseq⟩ := frameSend_cases f k s
    · exact ⟨_, hseq, ⟨by omega, by omega⟩, by simp only [Frame.stepsLeft]; omega, nofun⟩
    · exact ⟨_, hseq, trivial, by simp only [Frame.stepsLeft]; omega, nofun⟩
  | sample => exact ⟨_, rfl, trivial, by simp only [Frame.stepsLeft]; omega, nofun⟩
  | sleepExpected n h =>
    obtain ⟨hplace, hleft⟩ := h.bounds hpt
    refine ⟨.sleptExpected n, rfl, hplace, ?_, nofun⟩
    rw [show f.stepsLeft p (.sleptExpected n) = n + 2 * p.retry + f.endSteps from rfl]
    omega
  | sampleRetry n h =>
    obtain ⟨hplace, hleft⟩ := h.bounds hpt
    refine ⟨.sampledRetry n s.bitAnswer, rfl, hplace, ?_, nofun⟩
    rw [show f.stepsLeft p (.sampledRetry n s.bitAnswer) = 2 * n + f.endSteps + 1 from rfl]
    omega
  | sleepRetry n => exact ⟨.sleptRetry n, rfl, hpt, by simp only [Frame.stepsLeft]; omega, nofun⟩
  | readStatus h =>
    refine ⟨.gotStatus (s.readAnswer 2), rfl, hasLength_readAnswer 2 s, ?_, nofun⟩
    cases h <;> simp only [Frame.stepsLeft] <;> omega
  | readPayload d n h0 h1 hpay =>
    refine ⟨.gotPayload _, rfl, ⟨n, hpay, hasLength_readAnswer n _⟩, ?_, fun _ _ => rfl⟩
    simp [Frame.stepsLeft, Frame.endSteps, hpay]

/-- A frame is never stuck at one of its places. -/
theorem Frame.exists_move (hpt : f.hasPlace p pt) (s : State) : ∃ r, FrameMove p f s pt r := by
  have hsome : ∀ r, frameStep p f pt s = some r → ∃ r, FrameMove p f s pt r :=
    fun r h => ⟨r, frameMove_of_frameStep h⟩
  cases pt with
  | start => cases hpt
  | selected | sent | sentTrailer | sleptExpected | sleptRetry => exact hsome _ rfl
  | sampledFirst a => match a with | none | some false | some true => exact hsome _ rfl
  | sampledRetry k a => match a with | none | some false | some true => exact hsome _ rfl
  | gotStatus d => cases d <;> exact hsome _ rfl
  | gotPayload d =>
    obtain ⟨n, hpay, -⟩ := hpt
    cases d with
    | none => exact ⟨_, .failed rfl fun _ => by simp [hpay]⟩
    | some d => exact ⟨_, .store d n hpay⟩

/-! ## The places of a command -/

/-- Past its start a command has legal arguments and is at a place of its pseudocode (R35, R74). -/
def Underway (i : Instr) (s : State) (pos : Pos) : Prop :=
  argsIllegal Config.params i s = false ∧ atLegalPlace Config.params i s pos

theorem atLegalPlace_of_frame (hf : frameOf p i s held = some f) :
    atLegalPlace p i s ⟨pt, held⟩ ↔ heldLegal i held ∧ f.hasPlace p pt := by
  simp [atLegalPlace, hf]

theorem heldLegal_none (i : Instr) : heldLegal i none := nofun

/-- Every command with a bus primitive can be after its `BusSelect`. -/
theorem atLegalPlace_selected (hi : i ∈ busCommands) (ok : Bool) (p : Params) (s : State) :
    atLegalPlace p i s ⟨.selected ok, none⟩ := by
  refine ⟨heldLegal_none i, ?_⟩
  cases i with
  | brConfig | brWrite | brRead | dtStart | dtRead | btProbe | btRead | lxInit | lxRead => trivial
  | nop | crcByte | crcBuf | dtDecode | btDecode | lxDecode => exact absurd hi (by decide)

/-- Where a step that does not complete a command leads: on with the same word at a place of its pseudocode with
fewer steps left, and to a frame's payload only after two zero status bytes (R35, R108, R205). -/
structure Continues (i : Instr) (c : Word) (s : State) (pos : Pos) (t : State) (q : Pos) : Prop where
  seq : t.seq = .run c q
  underway : Underway i t q
  nearer : stepsLeft Config.params i t q < stepsLeft Config.params i s pos
  zeroStatus : ∀ d, q.point = .gotPayload d → i ≠ .dtRead → t.brstat = ⟨0x00#8, 0x00#8⟩

theorem stepsLeft_of_frame (hf : frameOf p i s held = some f) :
    stepsLeft p i s ⟨pt, held⟩ = f.stepsLeft p pt + (if i = .btProbe ∧ held = none then
      (btFrame p p.btRegDev s).stepsLeft p (.selected true) else 0) := by
  simp [stepsLeft, hf]

theorem btFrame_congr (hcfg : t.cfg = s.cfg) (p : Params) (reg : Byte) : btFrame p reg t = btFrame p reg s := by
  simp [btFrame, hcfg]

theorem stepsLeft_of_plain (hf : frameOf p i s held = none) :
    stepsLeft p i s ⟨pt, held⟩ = plainStepsLeft i pt := by
  simp [stepsLeft, hf]

theorem frameOf_eq_none_of_plainBytes {l : List Byte} (hl : plainBytes p i s = some l)
    (held : Option (List Byte)) : frameOf p i s held = none := by
  cases i with
  | brConfig | dtStart | dtRead => rfl
  | _ => cases hl

theorem stepsLeft_selected_lt (hi : i ∈ busCommands) (ok : Bool) (p : Params) (s : State) :
    stepsLeft p i s ⟨.selected ok, none⟩ < stepsLeft p i s ⟨.start, none⟩ := by
  cases hf : frameOf p i s none with
  | some f =>
    rw [stepsLeft_of_frame hf, stepsLeft_of_frame hf]
    simp only [Frame.stepsLeft]
    omega
  | none =>
    rw [stepsLeft_of_plain hf, stepsLeft_of_plain hf]
    cases i with
    | brConfig | dtStart | dtRead => exact Nat.lt_succ_self _
    | brWrite | brRead | btProbe | btRead | lxInit | lxRead => cases hf
    | nop | crcByte | crcBuf | dtDecode | btDecode | lxDecode => exact absurd hi (by decide)

theorem stepsLeft_congr (hcfg : t.cfg = s.cfg) (hframe : frameOf p i t held = frameOf p i s held) :
    stepsLeft p i t ⟨pt, held⟩ = stepsLeft p i s ⟨pt, held⟩ := by
  simp [stepsLeft, hframe, btFrame_congr hcfg]

theorem atLegalPlace_congr (hframe : frameOf p i t held = frameOf p i s held) :
    atLegalPlace p i t ⟨pt, held⟩ ↔ atLegalPlace p i s ⟨pt, held⟩ := by
  simp only [atLegalPlace, hframe]

/-- A command's work changes neither its places nor the steps left from them. -/
theorem Continues.of_works (hworks : Works i s t) (hargs : argsIllegal Config.params i s = false)
    (hseq : t.seq = .run c ⟨pt, held⟩) (hplace : atLegalPlace Config.params i s ⟨pt, held⟩)
    (hlt : stepsLeft Config.params i s ⟨pt, held⟩ < stepsLeft Config.params i s pos)
    (hzero : ∀ d, pt = .gotPayload d → i ≠ .dtRead → t.brstat = ⟨0x00#8, 0x00#8⟩) :
    Continues i c s pos t ⟨pt, held⟩ where
  seq := hseq
  underway := ⟨(argsIllegal_congr hworks.keeps.cfg hworks.keeps.xfer _ i).trans hargs,
    (atLegalPlace_congr (hworks.frameOf_eq _ held)).2 hplace⟩
  nearer := by rwa [stepsLeft_congr hworks.keeps.cfg (hworks.frameOf_eq _ held)]
  zeroStatus := hzero

/-- The first primitive of a command. -/
theorem busSelect_continues (hi : i ∈ busCommands) (hs : s.seq = .run c ⟨.start, none⟩)
    (hargs : argsIllegal Config.params i s = false) :
    Continues i c s ⟨.start, none⟩ (busSelect .selected s) ⟨.selected s.answer.ok, none⟩ :=
  .of_works (busSelect_issues hs).works hargs (by rw [busSelect_seq, hs, Seq.goto_run])
    (atLegalPlace_selected hi _ _ s) (stepsLeft_selected_lt hi _ _ s) nofun

/-- A primitive of a command past its start. -/
theorem Move.issued_continues (hs : s.seq = .run c ⟨pt, held⟩) (hat : Underway i s ⟨pt, held⟩)
    (h : Move Config.params i s held pt (.issued t)) : ∃ q, Continues i c s ⟨pt, held⟩ t q := by
  have hworks : Works i s t := h.works hs
  obtain ⟨hargs, hplace⟩ := hat
  have hgoto : ∀ q, t.seq = s.seq.goto q → t.seq = .run c ⟨q, held⟩ := fun q hq => by
    rw [hq, hs, Seq.goto_run]
  cases h with
  | send l hl =>
    refine ⟨_, .of_works hworks hargs (hgoto _ rfl) ⟨hplace.1, ?_⟩ ?_ nofun⟩
    · cases i with
      | brConfig | dtStart | dtRead => rfl
      | _ => cases hl
    · have hf := frameOf_eq_none_of_plainBytes hl held
      rw [stepsLeft_of_plain hf, stepsLeft_of_plain hf]
      cases i with
      | brConfig | dtStart | dtRead => exact Nat.lt_succ_self _
      | _ => cases hl
  | readScratchpad hi =>
    subst hi
    exact ⟨_, .of_works hworks hargs (hgoto _ rfl) ⟨hplace.1, hasLength_readAnswer _ s⟩
      (Nat.lt_succ_self _) fun _ _ hne => absurd rfl hne⟩
  | frame f hf h =>
    obtain ⟨hheld, hpt⟩ := (atLegalPlace_of_frame hf).1 hplace
    obtain ⟨q, hq⟩ := h.issued_next hpt
    refine ⟨_, .of_works hworks hargs (hgoto q hq.seq) ((atLegalPlace_of_frame hf).2 ⟨hheld, hq.place⟩) ?_
      fun d hd _ => hq.zeroStatus d hd⟩
    rw [stepsLeft_of_frame hf, stepsLeft_of_frame hf]
    exact Nat.add_lt_add_right hq.nearer _

/-- The first frame of BT_PROBE hands over to the second with the two bytes it read (R143). -/
theorem probe_handOver_continues (hs : s.seq = .run c ⟨pt, none⟩) (hat : Underway .btProbe s ⟨pt, none⟩)
    (h : Move Config.params .btProbe s none pt (.returned u d)) :
    ∃ q, Continues .btProbe c s ⟨pt, none⟩ (frameStart (u.hold d)) q := by
  have hworks := (probe_secondFrame_issues hs h).works
  obtain ⟨hseq, -⟩ := h.returned_place
  obtain ⟨hargs, hplace⟩ := hat
  obtain ⟨-, hpt⟩ := (atLegalPlace_of_frame rfl).1 hplace
  cases h with
  | sent h => cases h <;> contradiction
  | storeScratchpad h => contradiction
  | frame f hf h =>
    cases hf
    cases h with
    | endWrite d h0 h1 hpay => cases hpay
    | store d n hpay =>
      obtain ⟨m, hm, hlen⟩ := hpt
      cases hm
      have hheld : heldLegal .btProbe (some d) := fun l hl => ⟨rfl, hlen l hl⟩
      refine ⟨⟨.selected ((storePayload n d s).hold d).answer.ok, some d⟩,
        .of_works hworks hargs ?_ ((atLegalPlace_of_frame rfl).2 ⟨hheld, trivial⟩) ?_ nofun⟩
      · show (s.seq.hold d).goto _ = _
        rw [hs]
        rfl
      · rw [stepsLeft_of_frame rfl, stepsLeft_of_frame rfl]
        simp [Frame.stepsLeft]

theorem not_atLegalPlace_start : ¬atLegalPlace p i s ⟨.start, held⟩ := by
  rintro ⟨-, hplace⟩
  cases i <;> exact hplace

/-- A step of a command from one of its places completes it or continues it. -/
theorem exec_continues (hs : s.seq = .run c pos) (hat : pos = ⟨.start, none⟩ ∨ Underway i s pos)
    (h : exec i s = .next t) : (t.seq = .idle ∧ t.status.busy = false) ∨ ∃ q, Continues i c s pos t q := by
  obtain rfl | hat := hat
  · obtain rfl := Host.Outcome.next.inj ((exec_firstStep hs fun _ => rfl).symm.trans h)
    obtain ⟨-, h⟩ | ⟨hargs, h⟩ := checked_cases Config.params i (firstStep Config.params i) s
    · rw [h]
      exact .inl (raise_ends (illegalCommand_mem_failuresOf i) s).idle
    · rw [h]
      by_cases hi : i ∈ busCommands
      · rw [firstStep_of_bus hi]
        exact .inr ⟨_, busSelect_continues hi hs hargs⟩
      · exact .inl (firstStep_ends hi s).idle
  · obtain ⟨pt, held⟩ := pos
    have hpt : pt ≠ .start := by
      rintro rfl
      exact not_atLegalPlace_start hat.2
    obtain ⟨r, hr, rfl⟩ := move_of_exec hs hpt h
    cases r with
    | issued t => exact .inr (hr.issued_continues hs hat)
    | raised u e => exact .inl (hr.raised_ends hs).idle
    | returned u d =>
      by_cases hheld : i = .btProbe → held ≠ none
      · exact .inl (hr.returned_ends hs hheld).idle
      · obtain ⟨rfl, hnone⟩ := Classical.not_imp.1 hheld
        obtain rfl := not_not.1 hnone
        exact .inr (probe_handOver_continues hs hat hr)

theorem exists_move_of_plainPlace {l : List Byte} (hl : plainBytes p i s = some l)
    (hsent : ∃ r, Move p i s held (.sent 1 true) r) (hpt : plainPlace pt) : ∃ r, Move p i s held pt r := by
  cases pt with
  | selected ok =>
    cases ok with
    | true => exact ⟨_, .send l hl⟩
    | false => exact ⟨_, .selectFailed l hl⟩
  | sent k ok =>
    cases hpt
    cases ok with
    | true => exact hsent
    | false => exact ⟨_, .sendFailed l hl⟩
  | _ => cases hpt

/-- At each of its places a command has a move. -/
theorem exists_move (hplace : atLegalPlace p i s ⟨pt, held⟩) : ∃ r, Move p i s held pt r := by
  cases hf : frameOf p i s held with
  | some f =>
    obtain ⟨r, hr⟩ := Frame.exists_move ((atLegalPlace_of_frame hf).1 hplace).2 s
    exact ⟨r, .frame f hf hr⟩
  | none =>
    obtain ⟨-, hpt⟩ := hplace
    cases i with
    | brConfig => exact exists_move_of_plainPlace rfl ⟨_, .sent (.inl rfl)⟩ hpt
    | dtStart => exact exists_move_of_plainPlace rfl ⟨_, .sent (.inr rfl)⟩ hpt
    | dtRead =>
      cases pt with
      | gotPayload d =>
        cases d with
        | none => exact ⟨_, .readFailed rfl⟩
        | some d => exact ⟨_, .storeScratchpad rfl d⟩
      | _ => exact exists_move_of_plainPlace rfl ⟨_, .readScratchpad rfl⟩ hpt
    | brWrite | brRead | btProbe | btRead | lxInit | lxRead => cases hf
    | nop | crcByte | crcBuf | dtDecode | btDecode | lxDecode => cases hpt

/-- A command is never stuck at one of its places. -/
theorem exec_progress (hs : s.seq = .run c pos) (hat : pos = ⟨.start, none⟩ ∨ Underway i s pos) :
    ∃ t, exec i s = .next t := by
  obtain rfl | ⟨-, hplace⟩ := hat
  · exact ⟨_, exec_firstStep hs fun _ => rfl⟩
  · obtain ⟨r, hr⟩ := exists_move hplace
    exact ⟨_, exec_of_move hs hr⟩

end Sys2Proof.Machine
end

section
/-! Decoding and encoding of command words (spec/30_encoding.md R70 to R75), over words and over their bytes
(spec/20_memory.md R57). -/

namespace Sys2Proof

variable {w : Word} {i : Instr}

/-! ## The opcode map as a table (R73) -/

/-- The map reads each command from its own opcode and from no other, row by row. -/
theorem decodeOpcode_eq_some_iff {op : Byte} : decodeOpcode op = some i ↔ op = opcodeOf i := by
  refine ⟨fun h => ?_, fun h => ?_⟩
  · unfold decodeOpcode at h
    split at h <;> cases h <;> exact BitVec.eq_of_toNat_eq ‹_›
  · subst h
    cases i <;> rfl

/-! ## Words -/

theorem encode_toNat (i : Instr) : (encode i).toNat = (opcodeOf i).toNat := by
  rw [encode, Machine.toNat_append_eq_add]
  simp

/-- A word is a command's encoding exactly if its reserved bits are 0 and its OPCODE is the command's (R70). -/
theorem eq_encode_iff : w = encode i ↔ reservedField w = 0#24 ∧ opcodeField w = opcodeOf i := by
  rw [reservedField_eq_zero_iff, ← BitVec.toNat_inj, ← BitVec.toNat_inj, opcodeField_toNat, encode_toNat]
  have hop := (opcodeOf i).isLt
  omega

theorem decodeWord_eq_ok_iff : decodeWord w = .ok i ↔ w = encode i := by
  rw [eq_encode_iff, ← decodeOpcode_eq_some_iff]
  unfold decodeWord
  split
  next h => cases decodeOpcode (opcodeField w) <;> simp [h]
  next h => simp [h]

theorem decodeWord_encode (i : Instr) : decodeWord (encode i) = .ok i := decodeWord_eq_ok_iff.2 rfl

/-! ## The bytes of a word (R57) -/

theorem wordOfBytes_toNat (b0 b1 b2 b3 : Byte) : (wordOfBytes b0 b1 b2 b3).toNat =
    b0.toNat + 256 * b1.toNat + 65536 * b2.toNat + 16777216 * b3.toNat := by
  simp only [wordOfBytes, Machine.toNat_append_eq_add]
  omega

theorem byteLane_toNat (w : Word) (k : Nat) : (byteLane w k).toNat = w.toNat / 2 ^ (8 * k) % 256 := by
  rw [byteLane, BitVec.extractLsb'_toNat, Nat.shiftRight_eq_div_pow]

/-- The word of a word's four byte lanes is that word. -/
theorem wordOfBytes_byteLanes (w : Word) :
    wordOfBytes (byteLane w 0) (byteLane w 1) (byteLane w 2) (byteLane w 3) = w := by
  have hlt := w.isLt
  apply BitVec.eq_of_toNat_eq
  simp only [wordOfBytes_toNat, byteLane_toNat]
  omega

/-- The byte lanes of the word of four bytes are those bytes. -/
theorem bytesOfWord_wordOfBytes (b0 b1 b2 b3 : Byte) :
    bytesOfWord (wordOfBytes b0 b1 b2 b3) = [b0, b1, b2, b3] := by
  have h0 := b0.isLt
  have h1 := b1.isLt
  have h2 := b2.isLt
  have h3 := b3.isLt
  simp only [bytesOfWord, List.cons.injEq, ← BitVec.toNat_inj, byteLane_toNat, wordOfBytes_toNat, and_true]
  omega

theorem decodeBytes_cons (b0 b1 b2 b3 : Byte) (rest : List Byte) :
    decodeBytes (b0 :: b1 :: b2 :: b3 :: rest) = .ok (i, rest) ↔
      decodeWord (wordOfBytes b0 b1 b2 b3) = .ok i := by
  rw [decodeBytes]
  cases decodeWord (wordOfBytes b0 b1 b2 b3) <;> simp

theorem decodeBytes_encodeBytes (i : Instr) (rest : List Byte) :
    decodeBytes (encodeBytes i ++ rest) = .ok (i, rest) := by
  refine (decodeBytes_cons _ _ _ _ rest).2 ?_
  rw [wordOfBytes_byteLanes, decodeWord_encode]

/-! ## The statements -/

/-- Settles O2: the reserved bits and OPCODE make up the word, and the opcode map is one to one. -/
theorem decodeInvertsEncode : Obligations.DecodeInvertsEncode := by
  refine ⟨decodeBytes_encodeBytes, fun b0 b1 b2 b3 rest i h => ?_, fun w i => decodeWord_eq_ok_iff⟩
  have hword := decodeWord_eq_ok_iff.1 ((decodeBytes_cons b0 b1 b2 b3 rest).1 h)
  rw [encodeBytes, ← hword, bytesOfWord_wordOfBytes]

/-- Settles O3. -/
theorem onlyWellFormedWordsDecode : Obligations.OnlyWellFormedWordsDecode := by
  refine fun w => ⟨decodeWord_reservedBits, fun hlt hundefined => ?undefined, fun hlt hdefined => ?defined⟩
  case undefined =>
    have hfield : opcodeField w = w.setWidth 8 := rfl
    rw [decodeWord_undefinedOpcode hlt hundefined, hfield]
  case defined =>
    obtain ⟨i, hi⟩ := Option.isSome_iff_exists.1 ((isSome_decodeOpcode w).trans hdefined)
    exact ⟨i, decodeWord_eq_ok_iff.2
      (eq_encode_iff.2 ⟨(reservedField_eq_zero_iff w).2 hlt, decodeOpcode_eq_some_iff.1 hi⟩)⟩

/-- Settles O1: the words of the table are the commands' own, and the other two are evaluated. -/
theorem decoderReadsOpcodeTableWords : Obligations.DecoderReadsOpcodeTableWords :=
  ⟨Laws.TableWord.crcBuf.2, Laws.TableWord.brWrite.2, Laws.TableWord.dtRead.2, Laws.TableWord.btProbe.2,
    Laws.TableWord.lxDecode.2, by decide, by decide⟩

end Sys2Proof
end

section
/-! The invariant of the machine (spec/10_state.md R31, R33, R35, R37, spec/41_bridge.md R113,
spec/60_exceptions.md R171): it holds at reset, every step keeps it, and no step from it stops; and the ends of a
running command (spec/70_reset_and_hazards.md R205). -/

namespace Sys2Proof.Machine

variable {s t u : State} {i : Instr} {c : Word} {pos : Pos} {pt : Point} {held : Option (List Byte)}
  {d : List Byte} {r : Reg} {v : Word}

/-! ## Making the invariant -/

/-- A CODE that R171 lists, with the ERR it goes with. -/
abbrev LegalCode (err : Bool) (code : BitVec 3) : Prop :=
  code ≠ 7#3 ∧ (err = true ↔ code ≠ codeNone ∧ code ≠ codeMismatch)

theorem legalCode_none : LegalCode false codeNone := by decide
theorem legalCode_mismatch : LegalCode false codeMismatch := by decide
theorem legalCode_failure (e : Failure) : LegalCode true e.code := by cases e <;> decide

/-- RESULT in the range of R31. -/
abbrev ResultInRange (v : Word) : Prop := -2560 ≤ v.toInt ∧ v.toInt ≤ 4294836

theorem resultInRange_zero : ResultInRange 0#32 := by decide

theorem Inv.legalCode (h : Inv s) : LegalCode s.status.err s.status.code := ⟨h.codeLegal, h.errIffFailure⟩

/-- While idle, the invariant is about STATUS, BUF and RESULT only. -/
theorem Inv.of_idle (hseq : s.seq = .idle) (hbusy : s.status.busy = false) (hbuf : s.buf.wf)
    (hcode : LegalCode s.status.err s.status.code) (hresult : ResultInRange s.result) : Inv s where
  busyIffRunning := by rw [hseq, hbusy, Seq.running_idle]
  bufWf := hbuf
  codeLegal := hcode.1
  errIffFailure := hcode.2
  clearWhileBusy h := by simp [hbusy] at h
  resultRange := hresult
  latched c pos h := by simp [hseq] at h
  zeroStatusBeforePayload c d held h := by simp [hseq] at h

theorem Inv.seq_of_not_busy (h : Inv s) (hbusy : s.status.busy = false) : s.seq = .idle := by
  have hrunning := h.busyIffRunning.symm.trans hbusy
  cases hs : s.seq with
  | idle => rfl
  | run c pos => simp [hs] at hrunning

theorem Inv.busy_of_run (h : Inv s) (hs : s.seq = .run c pos) : s.status.busy = true := by
  rw [h.busyIffRunning, hs, Seq.running_run]

/-- The flags the invariant speaks of and the engine's other registers decide it: WIGN and the environment do
not. -/
theorem Inv.with_status_env (h : Inv s) {st : Status} (hbusy : st.busy = s.status.busy)
    (herr : st.err = s.status.err) (hcode : st.code = s.status.code) (e : Env) :
    Inv ((s.setStatus st).setEnv e) where
  busyIffRunning := hbusy.trans h.busyIffRunning
  bufWf := h.bufWf
  codeLegal := fun h7 => h.codeLegal (hcode.symm.trans h7)
  errIffFailure := by
    simp only [State.setEnv_status, State.setStatus_status, herr, hcode]
    exact h.errIffFailure
  clearWhileBusy hb := by
    simp only [State.setEnv_status, State.setStatus_status, herr, hcode]
    exact h.clearWhileBusy (hbusy.symm.trans hb)
  resultRange := h.resultRange
  latched c pos hs := by
    obtain ⟨hcmd, hat⟩ := h.latched c pos hs
    refine ⟨hcmd, hat.imp_right fun ⟨i, hi, hargs, hplace⟩ => ⟨i, hi, ?_, ?_⟩⟩
    · exact (argsIllegal_congr (s := s) (t := (s.setStatus st).setEnv e) rfl rfl _ i).trans hargs
    · exact (atLegalPlace_congr (frameOf_congr (s := s) rfl rfl (fun _ => rfl) _ _)).2 hplace
  zeroStatusBeforePayload := h.zeroStatusBeforePayload

theorem Inv.with_env (h : Inv s) (e : Env) : Inv (s.setEnv e) :=
  h.with_status_env rfl rfl rfl e

theorem Inv.with_status (h : Inv s) {st : Status} (hbusy : st.busy = s.status.busy)
    (herr : st.err = s.status.err) (hcode : st.code = s.status.code) : Inv (s.setStatus st) :=
  h.with_status_env hbusy herr hcode s.env

/-! ## The host and the platform's reset -/

/-- Whatever the environment, the reset state meets the invariant (R191). -/
theorem inv_afterReset (e : Env) : Inv (State.afterReset e) :=
  .of_idle rfl rfl ⟨.nil, nofun⟩ legalCode_none resultInRange_zero

/-- A command starts with its word latched, at the start of its pseudocode (R71). -/
theorem Inv.of_startCommand (h : Inv s) (v : Word) : Inv (startCommand v s) where
  busyIffRunning := rfl
  bufWf := h.bufWf
  codeLegal := legalCode_none.1
  errIffFailure := legalCode_none.2
  clearWhileBusy _ := ⟨rfl, rfl⟩
  resultRange := h.resultRange
  latched c pos hs := by cases hs; exact ⟨rfl, .inl rfl⟩
  zeroStatusBeforePayload c d held hs := by cases hs

/-- A write of an idle engine's operand registers keeps STATUS, SEQ and RESULT (R26 to R30, R33). -/
theorem Inv.of_idle_write (h : Inv s) (hbusy : s.status.busy = false) (hseq : t.seq = s.seq)
    (hstatus : t.status = s.status) (hresult : t.result = s.result) (hbuf : t.buf.wf) : Inv t :=
  .of_idle (hseq.trans (h.seq_of_not_busy hbusy)) (by rw [hstatus, hbusy]) hbuf
    (by rw [hstatus]; exact h.legalCode) (by rw [hresult]; exact h.resultRange)

theorem unlessBusy_of_idle (hbusy : s.status.busy = false) (go : State → State) : unlessBusy go s = go s := by
  simp [unlessBusy, hbusy]

theorem Inv.of_writeReg (h : Inv s) (r : Reg) (v : Word) : Inv (writeReg r v s) := by
  have hdrop : Inv (dropWrite s) := h.with_status rfl rfl rfl
  have hwritten : Inv (s.setStatus (s.status.written v)) :=
    h.with_status (Status.written_busy _ v) (Status.written_err _ v) (Status.written_code _ v)
  cases hbusy : s.status.busy with
  | true =>
    cases r with
    | status => exact hwritten
    | result | brstat => exact h
    | _ => rwa [writeReg_of_busy hbusy (by simp)]
  | false =>
    cases r with
    | status => exact hwritten
    | result | brstat => exact h
    | cmd =>
      rw [writeReg, unlessBusy_of_idle hbusy]
      exact h.of_startCommand v
    | crc | devidLo | devidHi | xfer | data | cfg =>
      rw [writeReg, unlessBusy_of_idle hbusy]
      exact h.of_idle_write hbusy rfl rfl rfl h.bufWf
    | buf k =>
      rw [writeReg, unlessBusy_of_idle hbusy]
      exact h.of_idle_write hbusy rfl rfl rfl (Memory.writeList_wf _ _ _ h.bufWf)

/-- A step of the host is a write to a register, or leaves the engine as it was (R52, R55). -/
theorem hostStep_cases (s : State) : (∃ e, hostStep s = s.setEnv e ∧ e.events = s.env.events) ∨
    ∃ r v rest, hostStep s = writeReg r v (hostRest rest s) := by
  rw [hostStep]
  split
  · exact .inl ⟨s.env, rfl, rfl⟩
  next offset v rest _ =>
    rw [hostWrite]
    split
    next r _ => exact .inr ⟨r, v, rest, rfl⟩
    next => exact .inl ⟨_, rfl, rfl⟩
  · exact .inl ⟨_, rfl, rfl⟩
  · split <;> exact .inl ⟨_, rfl, rfl⟩

theorem Inv.of_hostStep (h : Inv s) : Inv (hostStep s) := by
  obtain ⟨e, he, -⟩ | ⟨r, v, rest, hw⟩ := hostStep_cases s
  · rw [he]
    exact h.with_env e
  · rw [hw]
    exact Inv.of_writeReg (s := hostRest rest s) (h.with_env _) r v

/-! ## The engine -/

/-- A running command that the decoder reads as `i` is at its start or at a place of its pseudocode. -/
theorem Inv.underway (h : Inv s) (hs : s.seq = .run c pos) (hi : decodeWord c = .ok i) :
    pos = ⟨.start, none⟩ ∨ Underway i s pos := by
  obtain ⟨-, hat⟩ := h.latched c pos hs
  refine hat.imp_right fun ⟨j, hj, hplace⟩ => ?_
  cases hi.symm.trans hj
  exact hplace

theorem Ending.legalCode (h : Ending i u t) : LegalCode t.status.err t.status.code := by
  cases h with
  | success | result => exact legalCode_none
  | mismatch => exact legalCode_mismatch
  | failure e he =>
    rw [raise_status]
    exact legalCode_failure e

theorem Ending.resultInRange (h : Ending i u t) (hu : ResultInRange u.result) : ResultInRange t.result := by
  cases h with
  | success => exact hu
  | result v hi hmin hmax => exact ⟨hmin, hmax⟩
  | mismatch => exact resultInRange_zero
  | failure e he =>
    rw [raise_eq]
    show ResultInRange (if _ then _ else _)
    split
    · exact resultInRange_zero
    · exact hu

theorem Works.buf_wf (h : Works i s t) (hs : s.buf.wf) : t.buf.wf := by
  obtain hbuf | ⟨c, d, held, n, -, -, hbuf⟩ := h.buf
  · rwa [hbuf]
  · rw [hbuf]
    exact Memory.writeList_wf _ _ _ hs

theorem Inv.of_ends (h : Inv s) (hends : Ends i s t) : Inv t := by
  obtain ⟨hseq, hbusy⟩ := hends.idle
  obtain ⟨u, hworks, -, hend⟩ := hends
  obtain ⟨v, err, code, ht⟩ := hend.completion
  have hbuf : t.buf = u.buf := by rw [ht]; rfl
  have hresult : ResultInRange u.result := by rw [hworks.keeps.result]; exact h.resultRange
  exact .of_idle hseq hbusy (by rw [hbuf]; exact hworks.buf_wf h.bufWf) hend.legalCode
    (hend.resultInRange hresult)

theorem Inv.of_continues (h : Inv s) (hs : s.seq = .run c pos) (hi : decodeWord c = .ok i)
    (hworks : Works i s t) {q : Pos} (ht : Continues i c s pos t q) : Inv t where
  busyIffRunning := by rw [ht.seq, hworks.keeps.status, h.busy_of_run hs, Seq.running_run]
  bufWf := hworks.buf_wf h.bufWf
  codeLegal := by rw [hworks.keeps.status]; exact h.codeLegal
  errIffFailure := by rw [hworks.keeps.status]; exact h.errIffFailure
  clearWhileBusy := by rw [hworks.keeps.status]; exact h.clearWhileBusy
  resultRange := by rw [hworks.keeps.result]; exact h.resultRange
  latched c' pos' hs' := by
    cases ht.seq.symm.trans hs'
    exact ⟨(h.latched c pos hs).1.trans hworks.keeps.cmd.symm, .inr ⟨i, hi, ht.underway⟩⟩
  zeroStatusBeforePayload c' d held hs' hne := by
    cases ht.seq.symm.trans hs'
    exact ht.zeroStatus d rfl fun h => hne (h ▸ hi)

/-- Every engine step of a command keeps the invariant. -/
theorem Inv.of_exec (h : Inv s) (hs : s.seq = .run c pos) (hi : decodeWord c = .ok i)
    (hexec : exec i s = .next t) : Inv t := by
  obtain hissues | hends := exec_outcome hexec
  · obtain ⟨hidle, -⟩ | ⟨q, hq⟩ := exec_continues hs (h.underway hs hi) hexec
    · obtain ⟨c', p, q, -, hq⟩ := hissues.place
      cases hidle.symm.trans hq
    · exact h.of_continues hs hi hissues.works hq
  · exact h.of_ends hends

theorem Inv.of_engineStep (h : Inv s) (hstep : engineStep s = .next t) : Inv t := by
  obtain ⟨-, rfl⟩ | ⟨c, p, r, -, -, rfl⟩ | ⟨c, p, i, hs, hi, hexec⟩ := engineStep_cases hstep
  · exact h
  · exact .of_idle rfl rfl h.bufWf (legalCode_failure .illegalCommand) h.resultRange
  · exact h.of_exec hs hi hexec

/-- An engine step from the invariant is possible. -/
theorem Inv.exists_engineStep (h : Inv s) : ∃ t, engineStep s = .next t := by
  rw [engineStep]
  cases hs : s.seq with
  | idle => exact ⟨s, rfl⟩
  | run c pos =>
    simp only
    cases hi : decodeWord c with
    | error r => exact ⟨_, rfl⟩
    | ok i => exact exec_progress hs (h.underway hs hi)

theorem Inv.exists_takeTurn (h : Inv s) (turn : Turn) : ∃ t, takeTurn turn s = .next t := by
  cases turn with
  | host | reset => exact ⟨_, rfl⟩
  | engine => exact h.exists_engineStep

/-! ## The statements about single steps -/

/-- Settles O56. -/
theorem resetMeetsTheInvariant : Obligations.ResetMeetsTheInvariant := inv_afterReset Env.empty

/-- Settles O57, by who moves. -/
theorem everyStepKeepsTheInvariant : Obligations.EveryStepKeepsTheInvariant := by
  intro s t h hstep
  obtain ⟨r, hr, hmove⟩ := step_cases hstep
  have hinv : Inv r := by
    obtain rfl | ⟨rest, rfl⟩ := hr
    · exact h
    · exact h.with_env _
  obtain rfl | hengine | rfl := hmove
  · exact hinv.of_hostStep
  · exact hinv.of_engineStep hengine
  · exact inv_afterReset r.env

/-- Settles O58. -/
theorem noStepFaultsOrRefuses : Obligations.NoStepFaultsOrRefuses := by
  intro s h
  rw [step]
  split
  · exact h.exists_takeTurn _
  · exact (h.with_env _).exists_takeTurn _

end Sys2Proof.Machine
end

section
/-! The ends of a running command: what success needs (spec/41_bridge.md R113), and how many steps the completion
is away (spec/70_reset_and_hazards.md R205). -/

namespace Sys2Proof.Machine

variable {p : Params} {f : Frame} {s t u : State} {i : Instr} {c : Word} {pos : Pos} {pt : Point}
  {held : Option (List Byte)} {d : List Byte} {e : Failure}

/-! ## Success needs two zero status bytes (R113) -/

/-- A frame returns with BRSTAT at two zero bytes, if it read its payload with BRSTAT so. -/
theorem FrameMove.returned_zeroStatus (h : FrameMove p f s pt (.returned u d))
    (hpay : ∀ d, pt = .gotPayload d → s.brstat = ⟨0x00#8, 0x00#8⟩) : u.brstat = ⟨0x00#8, 0x00#8⟩ := by
  cases h with
  | endWrite => rfl
  | store d n => exact hpay _ rfl

theorem Ending.brstat_eq (h : Ending i u t) : t.brstat = u.brstat := by
  obtain ⟨v, err, code, rfl⟩ := h.completion
  rfl

/-- STATUS does not say that command `i` succeeded: CODE is not 0, nor, but in BT_PROBE, is ERR. -/
def Unsuccessful (i : Instr) (t : State) : Prop :=
  t.status.code ≠ codeNone ∧ (i ≠ .btProbe → t.status.err = true)

theorem raise_unsuccessful (i : Instr) (e : Failure) (u : State) : Unsuccessful i (raise i e u) := by
  rw [Unsuccessful, raise_status]
  exact ⟨((legalCode_failure e).2.1 rfl).1, fun _ => rfl⟩

theorem afterRaise_unsuccessful (i : Instr) (u : State) (e : Failure) : Unsuccessful i (afterRaise i u e) := by
  cases i with
  | btProbe =>
    have hmismatch : codeMismatch ≠ codeNone := by decide
    exact ⟨hmismatch, fun h => absurd rfl h⟩
  | _ => exact raise_unsuccessful _ e u

/-- A return of a frame that completes its command does so with BRSTAT at two zero bytes. -/
theorem Move.returned_zeroStatus (hframe : i ∈ frameCommands) (h : Move p i s held pt (.returned u d))
    (hpay : ∀ d, pt = .gotPayload d → s.brstat = ⟨0x00#8, 0x00#8⟩) : u.brstat = ⟨0x00#8, 0x00#8⟩ := by
  cases h with
  | sent h => obtain rfl | rfl := h <;> exact absurd hframe (by decide)
  | storeScratchpad h => subst h; exact absurd hframe (by decide)
  | frame f hf h => exact h.returned_zeroStatus hpay

/-- A command with frames completes successfully only with BRSTAT at two zero bytes. -/
theorem Inv.zeroStatus_or_unsuccessful (h : Inv s) (hs : s.seq = .run c pos) (hi : decodeWord c = .ok i)
    (hframe : i ∈ frameCommands) (hexec : exec i s = .next t) (hidle : t.seq = .idle) :
    t.brstat = ⟨0x00#8, 0x00#8⟩ ∨ Unsuccessful i t := by
  have hnot_continues : ∀ q, ¬Continues i c s pos t q := fun q hq => by cases hidle.symm.trans hq.seq
  obtain rfl | hat := h.underway hs hi
  · obtain rfl := Host.Outcome.next.inj ((exec_firstStep hs fun _ => rfl).symm.trans hexec)
    have hbus : ∀ j ∈ frameCommands, j ∈ busCommands := by decide
    obtain ⟨-, hraise⟩ | ⟨hargs, hselect⟩ := checked_cases Config.params i (firstStep Config.params i) s
    · rw [hraise]
      exact .inr (raise_unsuccessful i _ s)
    · rw [firstStep_of_bus (hbus i hframe)] at hselect
      exact absurd (hselect ▸ busSelect_continues (hbus i hframe) hs hargs) (hnot_continues _)
  · obtain ⟨pt, held⟩ := pos
    have hpt : pt ≠ .start := by
      rintro rfl
      exact not_atLegalPlace_start hat.2
    obtain ⟨r, hr, rfl⟩ := move_of_exec hs hpt hexec
    cases r with
    | issued t =>
      obtain ⟨q, hq⟩ := hr.issued_continues hs hat
      exact absurd hq (hnot_continues q)
    | raised u e => exact .inr (afterRaise_unsuccessful i u e)
    | returned u d =>
      by_cases hheld : i = .btProbe → held ≠ none
      · have hdtRead : i ≠ .dtRead := by rintro rfl; exact absurd hframe (by decide)
        have hzero : u.brstat = ⟨0x00#8, 0x00#8⟩ := hr.returned_zeroStatus hframe fun d hd =>
          h.zeroStatusBeforePayload c d held (hd ▸ hs) fun hj => hdtRead (by cases hi.symm.trans hj; rfl)
        exact .inl ((afterReturn_ending hr.mem_busCommands hheld u d).brstat_eq.trans hzero)
      · obtain ⟨rfl, hnone⟩ := Classical.not_imp.1 hheld
        obtain rfl := not_not.1 hnone
        obtain ⟨q, hq⟩ := probe_handOver_continues hs hat hr
        exact absurd hq (hnot_continues q)

/-! ## The completion is a bounded number of steps away (R205) -/

theorem Frame.one_le_stepsLeft (p : Params) (f : Frame) (pt : Point) : 1 ≤ f.stepsLeft p pt := by
  have hend : 1 ≤ f.endSteps := by
    rw [Frame.endSteps]
    split <;> decide
  cases pt <;> simp only [Frame.stepsLeft] <;> omega

theorem one_le_plainStepsLeft (i : Instr) (pt : Point) : 1 ≤ plainStepsLeft i pt := by
  unfold plainStepsLeft
  split <;> decide

theorem one_le_stepsLeft (p : Params) (i : Instr) (s : State) (pos : Pos) : 1 ≤ stepsLeft p i s pos := by
  obtain ⟨pt, held⟩ := pos
  cases hf : frameOf p i s held with
  | none => rw [stepsLeft_of_plain hf]; exact one_le_plainStepsLeft i pt
  | some f =>
    rw [stepsLeft_of_frame hf]
    exact Nat.le_add_right_of_le (f.one_le_stepsLeft p pt)

/-- A write frame has two or three `BusWrite`s before its trailer (R104). -/
theorem writeFrame_stepsLeft_start (p : Params) (speed : BitVec 2) (a7 : BitVec 7) (reg : Byte)
    (pay : List Byte) : (writeFrame p speed a7 reg pay).stepsLeft p .start ≤
      p.expectW speed pay.length + 2 * p.retry + 8 := by
  have hchunks : (writeFrame p speed a7 reg pay).chunks.length ≤ 3 := by
    rw [writeFrame]
    split <;> simp
  have hexpected : (writeFrame p speed a7 reg pay).expected = p.expectW speed pay.length := rfl
  have hend : (writeFrame p speed a7 reg pay).endSteps = 1 := rfl
  simp only [Frame.stepsLeft, hexpected, hend]
  omega

/-- A read frame has three of them, and its payload to read (R108). -/
theorem readFrame_stepsLeft_start (p : Params) (speed : BitVec 2) (a7 : BitVec 7) (reg : Byte) (n : Nat) :
    (readFrame p speed a7 reg n).stepsLeft p .start = p.expectR speed n + 2 * p.retry + 9 := by
  simp [Frame.stepsLeft, readFrame, Frame.endSteps]
  omega

theorem lenBytes_length (s : State) : s.lenBytes.length = s.len := by
  simp [State.lenBytes, Memory.readList]

/-- A command that is one frame is done when its frame is. -/
theorem stepsLeft_start_le_of_frame (hi : i ≠ .btProbe) (hf : frameOf p i s none = some f)
    (h : f.stepsLeft p .start ≤ stepBound p i s) : stepsLeft p i s ⟨.start, none⟩ ≤ stepBound p i s := by
  rwa [stepsLeft_of_frame hf, if_neg (fun h => hi h.1), Nat.add_zero]

/-- The bound of R205 is at least the steps left at a command's start. -/
theorem stepsLeft_start_le (p : Params) (i : Instr) (s : State) :
    stepsLeft p i s ⟨.start, none⟩ ≤ stepBound p i s := by
  cases i with
  | nop | crcByte | crcBuf | brConfig | dtStart | dtRead | dtDecode | btDecode | lxDecode => exact Nat.le_refl _
  | brWrite =>
    refine stepsLeft_start_le_of_frame (by decide) rfl ?_
    refine (writeFrame_stepsLeft_start ..).trans ?_
    simp only [stepBound, lenBytes_length]
    omega
  | lxInit =>
    refine stepsLeft_start_le_of_frame (by decide) rfl ?_
    refine (writeFrame_stepsLeft_start ..).trans ?_
    simp only [stepBound]
    omega
  | brRead | btRead | lxRead =>
    refine stepsLeft_start_le_of_frame (by decide) rfl ?_
    refine (readFrame_stepsLeft_start ..).le.trans ?_
    simp only [stepBound]
    omega
  | btProbe =>
    have hfirst := readFrame_stepsLeft_start p s.cfg.speed p.btAddr p.btRegMfr 2
    have hsecond := readFrame_stepsLeft_start p s.cfg.speed p.btAddr p.btRegDev 2
    have hselected : ∀ f : Frame, f.stepsLeft p (.selected true) + 1 = f.stepsLeft p .start := fun _ => rfl
    have hsecondSelected := hselected (btFrame p p.btRegDev s)
    rw [stepsLeft_of_frame rfl, if_pos ⟨rfl, rfl⟩]
    simp only [btFrame, stepBound] at *
    omega

/-- From any place of a command its completion comes within the steps left, where no scripted turn comes in
between: by induction on a bound of them. -/
theorem exists_steps_to_idle (n : Nat) : ∀ {s : State} {pos : Pos}, s.seq = .run (encode i) pos →
    s.env.turns = [] → (pos = ⟨.start, none⟩ ∨ Underway i s pos) →
    stepsLeft Config.params i s pos ≤ n →
    ∃ k t, 1 ≤ k ∧ k ≤ n ∧ steps k s = .next t ∧ t.seq = .idle ∧ t.status.busy = false := by
  induction n with
  | zero =>
    intro s pos _ _ _ hn
    exact absurd (one_le_stepsLeft Config.params i s pos) (by omega)
  | succ n ih =>
    intro s pos hs hturns hat hn
    obtain ⟨t, hexec⟩ := exec_progress hs hat
    have hstep : step s = .next t := (step_eq_exec hs (decodeWord_encode i) hturns).trans hexec
    obtain ⟨hidle, hbusy⟩ | ⟨q, hq⟩ := exec_continues hs hat hexec
    · exact ⟨1, t, Nat.le_refl 1, by omega, steps_succ 0 hstep, hidle, hbusy⟩
    · obtain ⟨-, -, -, -, -, -, -, -, hturns', -⟩ := commandsKeepTheirOperands i s t hexec
      obtain ⟨k, u, -, hk, hrun, hend⟩ :=
        ih hq.seq (hturns'.trans hturns) (.inr hq.underway) (by have := hq.nearer; omega)
      exact ⟨k + 1, u, by omega, by omega, (steps_succ k hstep).trans hrun, hend⟩

/-! ## The bus is the running engine's alone -/

theorem engineStep_idle (hs : s.seq = .idle) : engineStep s = .next s := by rw [engineStep, hs]

theorem unlessBusy_env {go : State → State} (hgo : (go s).env = s.env) : (unlessBusy go s).env = s.env := by
  rw [unlessBusy]
  split
  · rfl
  · exact hgo

theorem writeReg_env (r : Reg) (v : Word) (s : State) : (writeReg r v s).env = s.env := by
  cases r with
  | status | result | brstat => rfl
  | _ => exact unlessBusy_env rfl

theorem hostStep_events (s : State) : (hostStep s).env.events = s.env.events := by
  obtain ⟨e, he, hevents⟩ | ⟨r, v, rest, hw⟩ := hostStep_cases s
  · rw [he]
    exact hevents
  · rw [hw, writeReg_env]
    rfl

/-! ## The statements -/

/-- Settles O41. -/
theorem successNeedsZeroStatus : Obligations.SuccessNeedsZeroStatus := by
  intro i s t h hrunning hi hexec hidle
  cases hs : s.seq with
  | idle => simp [hs] at hrunning
  | run c pos =>
    have hi : decodeWord c = .ok i := by rw [(h.latched c pos hs).1, hi]
    have hsuccess : i ∈ frameCommands → ¬Unsuccessful i t → t.brstat = ⟨0x00#8, 0x00#8⟩ := fun hframe =>
      (h.zeroStatus_or_unsuccessful hs hi hframe hexec hidle).resolve_right
    refine ⟨fun hlist hok => hsuccess ?_ fun hbad => ?_, fun hprobe hok => hsuccess ?_ fun hbad => hbad.1 hok⟩
    · revert hlist
      cases i <;> decide
    · have hne : i ≠ .btProbe := by rintro rfl; exact absurd hlist (by decide)
      simp [hbad.2 hne] at hok
    · subst hprobe
      decide

/-- Settles O59. -/
theorem everyCommandCompletes : Obligations.EveryCommandCompletes := fun s i hs hturns =>
  exists_steps_to_idle _ hs hturns (.inl rfl) (stepsLeft_start_le Config.params i s)

/-- Settles O60. -/
theorem engineStepsComeToAnEnd : Obligations.EngineStepsComeToAnEnd := by
  intro s t i pos h hs hexec
  exact (exec_continues hs (h.underway hs (decodeWord_encode i)) hexec).imp
    (fun hidle => hidle.1) fun ⟨q, hq⟩ => ⟨q, hq.seq, hq.nearer⟩

/-- Settles O11: an idle engine's turn changes nothing, and neither the host nor reset is on the bus. -/
theorem idleEngineIssuesNoPrimitive : Obligations.IdleEngineIssuesNoPrimitive := by
  intro s t hs hstep
  obtain ⟨r, hr, hmove⟩ := step_cases hstep
  have hkept : r.seq = .idle ∧ r.env.events = s.env.events := by
    obtain rfl | ⟨rest, rfl⟩ := hr
    · exact ⟨hs, rfl⟩
    · exact ⟨hs, rfl⟩
  obtain rfl | hengine | rfl := hmove
  · exact (hostStep_events r).trans hkept.2
  · obtain rfl := Host.Outcome.next.inj ((engineStep_idle hkept.1).symm.trans hengine)
    exact hkept.2
  · exact hkept.2

end Sys2Proof.Machine
end

section
/-! The byte step of the checksum in its bitwise form, the residue of a frame with its trailer, and the two
commands that fold into CRC.ACC (spec/40_checksum.md R85 to R92). -/

namespace Sys2Proof.Machine

variable {s : State} {c : Word}

/-! ## The byte step bit by bit (R85, R88) -/

/-- One shift of the checksum with a message above it is one step of the bitwise form with the message's low bit,
the rest of the message moving down. -/
theorem crcShift_xor (a x : Half) : crcShift (a ^^^ x) = crcBit a (x.getLsbD 0) ^^^ (x >>> 1) := by
  have hshift : (a ^^^ x) >>> 1 = (a >>> 1) ^^^ (x >>> 1) := BitVec.ushiftRight_xor_distrib a x 1
  simp only [crcShift, crcBit, BitVec.getLsbD_xor, hshift]
  split
  · rw [BitVec.xor_assoc, BitVec.xor_comm (x >>> 1), ← BitVec.xor_assoc]
  · rfl

/-- The last of n + 1 steps comes after the first n. -/
theorem crcShifts_succ (n : Nat) (a : Half) : crcShifts (n + 1) a = crcShift (crcShifts n a) := by
  induction n generalizing a with
  | zero => rfl
  | succ n ih => exact ih (crcShift a)

/-- After n shifts the n low bits of the message are folded in, one after the other, and the rest has moved down
by n. -/
theorem crcShifts_xor (n : Nat) (a x : Half) : crcShifts n (a ^^^ x) =
    (List.range n).foldl (fun a k => crcBit a (x.getLsbD k)) a ^^^ (x >>> n) := by
  induction n with
  | zero => rfl
  | succ n ih =>
    have hbit : (x >>> n).getLsbD 0 = x.getLsbD n := by simp
    rw [crcShifts_succ, ih, crcShift_xor, hbit, List.range_succ, List.foldl_append, BitVec.shiftRight_add]
    rfl

theorem getLsbD_byteAsHalf (b : Byte) (k : Nat) : (b.setWidth 16).getLsbD k = b.getLsbD k := by
  rw [BitVec.getLsbD_setWidth]
  by_cases hk : k < 16
  · simp [hk]
  · simp [BitVec.getLsbD_of_ge b k (by omega)]

/-- A byte has no bit above its eight. -/
theorem byteAsHalf_shiftRight (b : Byte) : b.setWidth 16 >>> 8 = 0#16 := by
  apply BitVec.eq_of_getLsbD_eq
  intro k hk
  rw [BitVec.getLsbD_ushiftRight, getLsbD_byteAsHalf, BitVec.getLsbD_of_ge b _ (by omega)]
  simp

theorem crc16Byte_eq_bitwise (a : Half) (b : Byte) : crc16Byte a b = crc16Bitwise a b := by
  rw [crc16Byte, crcShifts_xor, byteAsHalf_shiftRight, BitVec.xor_zero]
  simp only [getLsbD_byteAsHalf, crc16Bitwise]

/-- The checksum is a fold of the bitwise form. -/
theorem crc16_eq_foldl (seed : Half) (l : List Byte) : crc16 seed l = l.foldl crc16Bitwise seed := by
  induction l generalizing seed with
  | nil => rfl
  | cons b l ih => rw [crc16_cons, ih, crc16Byte_eq_bitwise, List.foldl_cons]

/-! ## The residue (R89) -/

/-- Eight 1 bits on top of anything: the checksum's own byte is gone, and its high byte has moved down. -/
theorem crcShifts_of_lowOnes {x : Half} (h : ∀ k < 8, x.getLsbD k = true) :
    crcShifts 8 x = crcShifts 8 0x00FF#16 ^^^ (x >>> 8) := by
  have hfold : ∀ y : Half, (∀ k < 8, y.getLsbD k = true) →
      crcShifts 8 y = (List.range 8).foldl (fun a _ => crcBit a true) 0#16 ^^^ (y >>> 8) := by
    intro y hy
    have hzero := crcShifts_xor 8 0#16 y
    rw [BitVec.zero_xor] at hzero
    rw [hzero]
    exact congrArg (· ^^^ y >>> 8)
      (List.foldl_ext _ _ _ fun a k hk => by rw [hy k (List.mem_range.1 hk)])
  have hones : (0x00FF#16 : Half) >>> 8 = 0#16 := by decide
  rw [hfold x h, hfold 0x00FF#16 (by decide), hones, BitVec.xor_zero]

/-- The checksum's low byte against the trailer's first byte: eight 1 bits. -/
theorem xor_notLow_lowOnes (a : Half) :
    ∀ k < 8, (a ^^^ (~~~(a.extractLsb' 0 8)).setWidth 16).getLsbD k = true := by
  intro k hk
  rw [BitVec.getLsbD_xor, getLsbD_byteAsHalf]
  simp [hk]

/-- Its high byte, moved down, against the second byte: eight 1 bits and nothing above. -/
theorem shiftRight_xor_notHigh (a : Half) :
    (a >>> 8) ^^^ (~~~(a.extractLsb' 8 8)).setWidth 16 = 0x00FF#16 := by
  have hones : ∀ k < 16, (0x00FF#16 : Half).getLsbD k = decide (k < 8) := by decide
  apply BitVec.eq_of_getLsbD_eq
  intro k hk
  rw [BitVec.getLsbD_xor, getLsbD_byteAsHalf, hones k hk]
  by_cases hlow : k < 8
  · simp [hlow]
  · simp [hlow, BitVec.getLsbD_of_ge a (8 + k) (by omega)]

/-- A trailer's bytes cancel the checksum before them: what is folded are eight 1 bits, twice. -/
theorem crc16_trailer (a : Half) : crc16 a (trailer a) = 0xB001#16 := by
  have hfirst : crc16Byte a (~~~(a.extractLsb' 0 8)) = crcShifts 8 0x00FF#16 ^^^ (a >>> 8) := by
    rw [crc16Byte, crcShifts_of_lowOnes (xor_notLow_lowOnes a), BitVec.ushiftRight_xor_distrib,
      byteAsHalf_shiftRight, BitVec.xor_zero]
  have hones : crcShifts 8 0x00FF#16 = 0x4040#16 := by decide
  have hresidue : crcShifts 8 (0x4040#16 ^^^ 0x00FF#16) = 0xB001#16 := by decide
  rw [trailer, crc16_cons, crc16_cons, crc16_nil, hfirst, crc16Byte, BitVec.xor_assoc, shiftRight_xor_notHigh,
    hones, hresidue]

/-! ## The commands -/

theorem argsIllegal_crcBuf (p : Params) (s : State) : argsIllegal p .crcBuf s = s.lenTooLong := rfl

/-- The first LEN bytes of BUF, folded one after the other. -/
theorem crc16_lenBytes (seed : Half) (s : State) : crc16 seed s.lenBytes =
    (List.range s.xfer.len.toNat).foldl (fun a k => crc16Bitwise a (s.buf.read k)) seed := by
  rw [crc16_eq_foldl, State.lenBytes, Memory.readList, List.foldl_map]
  rfl

/-! ## The statements -/

/-- Settles O29. -/
theorem byteStepIsBitwise : Obligations.ByteStepIsBitwise := crc16Byte_eq_bitwise

/-- Settles O30: the checksum of the frame is where the trailer starts, and the trailer cancels it. -/
theorem trailerResidueIsConstant : Obligations.TrailerResidueIsConstant := fun f => by
  rw [crc16_append, crc16_trailer]

/-- Settles O26: CRC_BYTE has no argument that could be illegal. -/
theorem crcByteCompletes : Obligations.CrcByteCompletes := by
  refine ⟨rfl, fun s c hs => ?_⟩
  have hlegal : argsIllegal Config.params .crcByte s = false := rfl
  have hbyte : s.dataByte = s.data.setWidth 8 := rfl
  rw [exec_start_legal hs hlegal, firstStep, crc16Byte_eq_bitwise, hbyte, finish_eq]
  rfl

/-- Settles O27, by whether LEN is beyond the frame buffer. -/
theorem crcBufCompletes : Obligations.CrcBufCompletes := by
  refine ⟨rfl, fun s c hs => ⟨fun hlen => ?legal, fun hlen => ?illegal⟩⟩
  case legal =>
    have hlegal : argsIllegal Config.params .crcBuf s = false := by
      rw [argsIllegal_crcBuf, ← Bool.not_eq_true, lenTooLong_iff]
      exact Nat.not_lt.2 hlen
    rw [exec_start_legal hs hlegal, firstStep, crc16_lenBytes, finish_eq]
    rfl
  case illegal =>
    have hillegal : argsIllegal Config.params .crcBuf s = true := by
      rwa [argsIllegal_crcBuf, lenTooLong_iff]
    rw [exec_start_of_argsIllegal hs hillegal, raiseIllegalWord_eq]

end Sys2Proof.Machine
end

section
/-! The host's accesses of the registers (spec/10_state.md R24 to R33, spec/20_memory.md R54 to R57): what a read
returns, busy and idle, and what a write while idle stores. -/

namespace Sys2Proof.Machine

variable {s : State} {r : Reg}

/-! ## Registers as numbers made of their fields -/

theorem Status.word_toNat (st : Status) : st.word.toNat =
    st.busy.toNat + 2 * st.err.toNat + 4 * st.code.toNat + 256 * st.wign.toNat := by
  simp only [Status.word, flagBit, toNat_append_eq_add, BitVec.toNat_ofBool, BitVec.toNat_ofNat]
  omega

theorem Xfer.word_toNat (x : Xfer) :
    x.word.toNat = x.addr.toNat + 256 * x.reg.toNat + 65536 * x.len.toNat := by
  simp only [Xfer.word, toNat_append_eq_add, BitVec.toNat_ofNat]
  omega

theorem Brstat.word_toNat (b : Brstat) : b.word.toNat = b.st0.toNat + 256 * b.st1.toNat := by
  simp only [Brstat.word, toNat_append_eq_add, BitVec.toNat_ofNat]
  omega

theorem halfAsWord_toNat (h : Half) : (h.setWidth 32).toNat = h.toNat := by
  have hlt := h.isLt
  rw [BitVec.toNat_setWidth]
  omega

/-- A word of BUF is the word of its four bytes (R33, R57). -/
theorem bufWord_eq (m : Memory) (k : Nat) : bufWord m k =
    wordOfBytes (m.read (4 * k)) (m.read (4 * k + 1)) (m.read (4 * k + 2)) (m.read (4 * k + 3)) := rfl

/-! ## Reads -/

/-- The registers no command changes read as they are, busy or not (R55). -/
theorem readValue_of_stable (hr : changesWhileBusy r = false) (s : State) :
    readValue r.offset s = regValue s r := by
  simp [readValue, regAt_offset, readIsFree, hr]

/-- While busy the others read as a free value (R55). -/
theorem readValue_of_changing (hbusy : s.status.busy = true) (hr : changesWhileBusy r = true) :
    readValue r.offset s = Config.freeRead s.env.draws := by
  simp [readValue, regAt_offset, readIsFree, hbusy, hr]

theorem readValue_status_toNat (s : State) : (readValue Reg.status.offset s).toNat =
    s.status.busy.toNat + 2 * s.status.err.toNat + 4 * s.status.code.toNat + 256 * s.status.wign.toNat := by
  rw [readValue_of_stable rfl, regValue, Status.word_toNat]

theorem readValue_xfer_toNat (s : State) : (readValue Reg.xfer.offset s).toNat =
    s.xfer.addr.toNat + 256 * s.xfer.reg.toNat + 65536 * s.xfer.len.toNat := by
  rw [readValue_of_stable rfl, regValue, Xfer.word_toNat]

theorem readValue_data_toNat (s : State) : (readValue Reg.data.offset s).toNat = s.data.toNat := by
  rw [readValue_of_stable rfl, regValue, halfAsWord_toNat]

theorem readValue_cfg_toNat (s : State) : (readValue Reg.cfg.offset s).toNat =
    s.cfg.speed.toNat + 16 * s.cfg.gsel.toNat + 256 * s.cfg.isel.toNat := by
  rw [readValue_of_stable rfl, regValue, Cfg.word_toNat]

/-- Settles O16. -/
theorem readsWhileBusy : Obligations.ReadsWhileBusy := by
  intro s hbusy
  have hstable : ∀ r ∈ [Reg.status, .cmd, .devidLo, .devidHi, .xfer, .data, .cfg],
      changesWhileBusy r = false := by decide
  have hchanging : ∀ r ∈ [Reg.crc, .result, .brstat, .buf 0, .buf 1, .buf 2, .buf 3],
      changesWhileBusy r = true := by decide
  have hcmd := readValue_of_stable (r := .cmd) rfl s
  have hlo := readValue_of_stable (r := .devidLo) rfl s
  have hhi := readValue_of_stable (r := .devidHi) rfl s
  have hstatus := readValue_status_toNat s
  rw [hbusy] at hstatus
  exact ⟨fun r hr => readValue_of_stable (hstable r hr) s, hstatus, hcmd, hlo, hhi, readValue_xfer_toNat s,
    readValue_data_toNat s, readValue_cfg_toNat s, fun r hr => readValue_of_changing hbusy (hchanging r hr),
    fun off => hostRead_keeps_engine off s⟩

/-- Settles O17. -/
theorem readsWhileIdleReturnTheRegisters : Obligations.ReadsWhileIdleReturnTheRegisters := by
  intro s hidle
  have hread : ∀ r, readValue (Reg.offset r) s = regValue s r := readValue_offset_of_idle hidle
  have hstatus := readValue_status_toNat s
  rw [hidle, Bool.toNat_false, Nat.zero_add] at hstatus
  have hacc : (readValue 0x08#8 s).toNat = s.acc.toNat :=
    (congrArg _ (hread .crc)).trans (halfAsWord_toNat s.acc)
  have hbrstat : (readValue 0x24#8 s).toNat = s.brstat.st0.toNat + 256 * s.brstat.st1.toNat :=
    (congrArg _ (hread .brstat)).trans (Brstat.word_toNat s.brstat)
  refine ⟨hread .cmd, hstatus, hacc, hread .devidLo, hread .devidHi, readValue_xfer_toNat s,
    readValue_data_toNat s, readValue_cfg_toNat s, hread .result, hbrstat, fun k => ?_,
    fun off => hostRead_keeps_engine off s⟩
  rw [hread, regValue, bufWord_eq, wordOfBytes_toNat]

/-! ## Writes while idle -/

/-- A register made of fields reads back what was written less its reserved bits: XFER (R28). -/
theorem Xfer.word_ofWord (v : Word) : (Xfer.ofWord v).word = v &&& 0x001FFF7F#32 := by
  have hmask : ∀ k < 32, (0x001FFF7F#32 : Word).getLsbD k = decide (k < 7 ∨ (8 ≤ k ∧ k < 21)) := by decide
  apply BitVec.eq_of_getLsbD_eq
  intro k hk
  rw [BitVec.getLsbD_and, hmask k hk]
  simp only [Xfer.word, Xfer.ofWord, BitVec.getLsbD_append, BitVec.getLsbD_extractLsb']
  grind

theorem Cfg.word_ofWord (v : Word) : (Cfg.ofWord v).word = v &&& 0x00000773#32 := by
  have hmask : ∀ k < 32, (0x00000773#32 : Word).getLsbD k =
      decide (k < 2 ∨ (4 ≤ k ∧ k < 7) ∨ (8 ≤ k ∧ k < 11)) := by decide
  apply BitVec.eq_of_getLsbD_eq
  intro k hk
  rw [BitVec.getLsbD_and, hmask k hk]
  simp only [Cfg.word, Cfg.ofWord, BitVec.getLsbD_append, BitVec.getLsbD_extractLsb']
  grind

/-- The 16-bit registers (R26, R29). -/
theorem lowHalf_word (v : Word) : (v.extractLsb' 0 16).setWidth 32 = v &&& 0x0000FFFF#32 := by
  have hmask : ∀ k < 32, (0x0000FFFF#32 : Word).getLsbD k = decide (k < 16) := by decide
  apply BitVec.eq_of_getLsbD_eq
  intro k hk
  rw [BitVec.getLsbD_and, hmask k hk, BitVec.getLsbD_setWidth, BitVec.getLsbD_extractLsb']
  grind

/-- While idle a write to an operand register stores, and what is stored reads back. -/
theorem readValue_of_write_idle {t : State} {v : Word} (hidle : s.status.busy = false)
    (hwrite : hostWrite r.offset v s = t) (hstatus : t.status = s.status) :
    readValue r.offset (hostWrite r.offset v s) = regValue t r := by
  rw [hwrite, readValue_offset_of_idle (by rw [hstatus, hidle])]

/-- The bytes of BUF after a word's bytes were written at a word's place: the written ones there, every other
byte as it was (R33, R57). -/
theorem Memory.read_writeWord {m : Memory} (hm : m.wf) (k : Fin 4) (v : Word) (a : Nat) :
    (m.writeList (4 * k.val) (bytesOfWord v)).read a =
      if 4 * k.val ≤ a ∧ a < 4 * k.val + 4 then (bytesOfWord v).getD (a - 4 * k.val) 0#8 else m.read a := by
  have hk := k.isLt
  have hlen : (bytesOfWord v).length = 4 := rfl
  have hsize : Config.bufSize = 16 := rfl
  have hcond : (4 * k.val ≤ a ∧ a < 4 * k.val + 4 ∧ a < 16) ↔ (4 * k.val ≤ a ∧ a < 4 * k.val + 4) := by
    omega
  rw [Memory.read_writeList _ _ _ _ hm, hlen, hsize]
  simp only [hcond]

theorem bufWord_writeWord {m : Memory} (hm : m.wf) (k : Fin 4) (v : Word) :
    bufWord (m.writeList (4 * k.val) (bytesOfWord v)) k.val = v := by
  rw [bufWord_eq]
  simp only [Memory.read_writeWord hm k v, le_refl, Nat.le_add_right, true_and, Nat.lt_add_right_iff_pos,
    Nat.add_lt_add_iff_left, Nat.reduceLT, if_true, Nat.sub_self, Nat.add_sub_cancel_left]
  exact wordOfBytes_byteLanes v

theorem hostWrite_buf (hidle : s.status.busy = false) (k : Fin 4) (v : Word) :
    hostWrite (Reg.buf k).offset v s =
      { s with buf := s.buf.writeList (4 * k.val) (bytesOfWord v) } := by
  rw [hostWrite_offset, writeReg, unlessBusy_of_idle hidle]
  rfl

/-- Settles O18, register by register. -/
theorem writesWhileIdleStoreTheDefinedBits : Obligations.WritesWhileIdleStoreTheDefinedBits := by
  intro s v hidle
  have hcrc : hostWrite Reg.crc.offset v s = { s with acc := v.setWidth 16 } := by
    rw [hostWrite_offset, writeReg, unlessBusy_of_idle hidle]
    rfl
  have hlo : hostWrite Reg.devidLo.offset v s = { s with devidLo := v } := by
    rw [hostWrite_offset, writeReg, unlessBusy_of_idle hidle]
    rfl
  have hhi : hostWrite Reg.devidHi.offset v s = { s with devidHi := v } := by
    rw [hostWrite_offset, writeReg, unlessBusy_of_idle hidle]
    rfl
  have hxfer : hostWrite Reg.xfer.offset v s = { s with xfer := Xfer.ofWord v } := by
    rw [hostWrite_offset, writeReg, unlessBusy_of_idle hidle]
    rfl
  have hdata : hostWrite Reg.data.offset v s = { s with data := v.setWidth 16 } := by
    rw [hostWrite_offset, writeReg, unlessBusy_of_idle hidle]
    rfl
  have hcfg : hostWrite Reg.cfg.offset v s = { s with cfg := Cfg.ofWord v } := by
    rw [hostWrite_offset, writeReg, unlessBusy_of_idle hidle]
    rfl
  have hword : v &&& 0xFFFFFFFF#32 = v := BitVec.and_allOnes
  refine ⟨fun rm hrm => ?readBack, hcrc, hlo, hhi, ?xfer, hdata, ?cfg, fun hwf k => ?buf⟩
  case readBack =>
    simp only [List.mem_cons, List.not_mem_nil, or_false] at hrm
    obtain rfl | rfl | rfl | rfl | rfl | rfl := hrm
    · exact (readValue_of_write_idle hidle hcrc rfl).trans (lowHalf_word v)
    · exact (readValue_of_write_idle hidle hlo rfl).trans hword.symm
    · exact (readValue_of_write_idle hidle hhi rfl).trans hword.symm
    · exact (readValue_of_write_idle hidle hxfer rfl).trans (Xfer.word_ofWord v)
    · exact (readValue_of_write_idle hidle hdata rfl).trans (lowHalf_word v)
    · exact (readValue_of_write_idle hidle hcfg rfl).trans (Cfg.word_ofWord v)
  case xfer =>
    show hostWrite Reg.xfer.offset v s = { s with xfer := (hostWrite Reg.xfer.offset v s).xfer }
    rw [hxfer]
  case cfg =>
    show hostWrite Reg.cfg.offset v s = { s with cfg := (hostWrite Reg.cfg.offset v s).cfg }
    rw [hcfg]
  case buf =>
    have hbuf := hostWrite_buf hidle k v
    refine ⟨by rw [hbuf], ?_, fun a ha => ?_⟩
    · exact (readValue_of_write_idle hidle hbuf rfl).trans (bufWord_writeWord hwf k v)
    · rw [hbuf, Memory.read_writeWord hwf, if_neg (by omega)]

/-- Settles O13. -/
theorem cmdWriteStartsACommand : Obligations.CmdWriteStartsACommand := by
  refine fun s v => ⟨fun hidle => ?_, fun hbusy => ?_⟩
  · show hostWrite Reg.cmd.offset v s = _
    rw [hostWrite_offset, writeReg, unlessBusy_of_idle hidle]
    rfl
  · have hdropped : hostWrite 0x00#8 v s = dropWrite s :=
      (hostWrite_offset .cmd v s).trans (writeReg_of_busy hbusy (by simp) v)
    rw [hdropped]
    exact ⟨rfl, rfl⟩

/-! ## WBUF (R80) -/

/-- The bytes of a group's word are the group's, padded with 0x00. -/
theorem bytesOfWord_groupWord (l : List Byte) :
    bytesOfWord (groupWord l) = [l.getD 0 0#8, l.getD 1 0#8, l.getD 2 0#8, l.getD 3 0#8] :=
  bytesOfWord_wordOfBytes _ _ _ _

/-- A step in which the idle engine's host writes a word of BUF. -/
theorem step_writes_buf {rest : List HostOp} {v : Word} (k : Fin 4) (hidle : s.status.busy = false)
    (hseq : s.seq = .idle) (hturns : s.env.turns = [])
    (hhost : s.env.host = .write (Reg.buf k).offset v :: rest) : step s = .next { s with
      buf := s.buf.writeList (4 * k.val) (bytesOfWord v)
      env := { s.env with host := rest } } := by
  have hstep : step s = .next (hostStep s) := by simp [step, hturns, defaultTurn, hseq, takeTurn]
  have hwrite : hostStep s = hostWrite (Reg.buf k).offset v (hostRest rest s) := by rw [hostStep, hhost]
  rw [hstep, hwrite, hostWrite_buf (s := hostRest rest s) hidle k v]
  rfl

theorem getD_drop_four (l : List Byte) (j : Nat) : (l.drop 4).getD j 0#8 = l.getD (j + 4) 0#8 := by
  simp [List.getD_eq_getElem?_getD, Nat.add_comm]

theorem groupBytes_getD (l : List Byte) {j : Nat} (hj : j < 4) :
    (bytesOfWord (groupWord l)).getD j 0#8 = l.getD j 0#8 := by
  rw [bytesOfWord_groupWord]
  interval_cases j <;> rfl

theorem progWbufFrom_cons {left k : Nat} {l : List Byte} (hl : l ≠ []) : progWbufFrom (left + 1) k l =
    .write (BitVec.ofNat 8 (0x40 + 4 * k)) (groupWord l) :: progWbufFrom left (k + 1) (l.drop 4) := by
  cases l with
  | nil => exact absurd rfl hl
  | cons => rfl

/-- What the accesses of `WBUF` over `l` come to from word `k` on: one step a group, after which the groups hold
the bytes of `l` and the rest of BUF and of the engine is as it was. -/
def WbufRuns (k : Nat) (l : List Byte) (s : State) : Prop :=
  ∃ t : State, steps ((l.length + 3) / 4) s = .next t ∧ t.env.host = [] ∧
    t = { s with buf := t.buf, env := t.env } ∧
    ∀ a, t.buf.read a =
      if 4 * k ≤ a ∧ a < 4 * (k + (l.length + 3) / 4) then l.getD (a - 4 * k) 0#8 else s.buf.read a

/-- By induction on the words left to write: the first group is one write, the other groups follow it. -/
theorem wbuf_runs (left : Nat) : ∀ (k : Nat) (l : List Byte) (s : State), k + left = 4 →
    l.length ≤ 4 * left → s.status.busy = false → s.buf.wf → s.seq = .idle → s.env.turns = [] →
    s.env.host = progWbufFrom left k l →
    (progWbufFrom left k l).length = (l.length + 3) / 4 ∧ WbufRuns k l s := by
  induction left with
  | zero =>
    intro k l s _ hlen _ _ _ _ hhost
    obtain rfl : l = [] := List.eq_nil_of_length_eq_zero (by omega)
    exact ⟨rfl, s, rfl, hhost, rfl, fun a => by rw [if_neg (by simp only [List.length_nil]; omega)]⟩
  | succ left ih =>
    intro k l s hk hlen hidle hwf hseq hturns hhost
    by_cases hl : l = []
    · subst hl
      exact ⟨rfl, s, rfl, hhost, rfl, fun a => by rw [if_neg (by simp only [List.length_nil]; omega)]⟩
    · have hpos : 0 < l.length := List.length_pos_iff.2 hl
      have hdrop : (l.drop 4).length = l.length - 4 := List.length_drop
      have hgroups : (l.length + 3) / 4 = ((l.drop 4).length + 3) / 4 + 1 := by omega
      rw [progWbufFrom_cons hl] at hhost ⊢
      have hstep := step_writes_buf ⟨k, by omega⟩ hidle hseq hturns hhost
      have hwf' := Memory.writeList_wf (bytesOfWord (groupWord l)) s.buf (4 * k) hwf
      obtain ⟨hlength, t, hrun, hdone, hframe, hread⟩ :=
        ih (k + 1) (l.drop 4)
        { s with
          buf := s.buf.writeList (4 * k) (bytesOfWord (groupWord l))
          env := { s.env with host := progWbufFrom left (k + 1) (l.drop 4) } }
        (by omega) (by omega) hidle hwf' hseq hturns rfl
      refine ⟨by rw [List.length_cons, hlength, hgroups], t, ?_, hdone, ?_, fun a => ?_⟩
      · rw [hgroups, steps_succ _ hstep, hrun]
      · rw [hframe]
      · have hword := Memory.read_writeWord hwf ⟨k, by omega⟩ (groupWord l) a
        simp only at hword
        rw [hread a, hword, hgroups]
        by_cases hgroup : 4 * k ≤ a ∧ a < 4 * k + 4
        · rw [if_neg (by omega), if_pos hgroup, if_pos (by omega), groupBytes_getD l (by omega)]
        · rw [if_neg hgroup, getD_drop_four]
          by_cases hlater : 4 * (k + 1) ≤ a ∧ a < 4 * (k + 1 + ((l.drop 4).length + 3) / 4)
          · rw [if_pos hlater, if_pos (by omega), show a - 4 * (k + 1) + 4 = a - 4 * k by omega]
          · rw [if_neg hlater, if_neg (by omega)]

/-- Settles O19: the four words of BUF are enough for 16 bytes. -/
theorem wbufFillsTheBuffer : Obligations.WbufFillsTheBuffer := by
  intro l s _ hmax hidle hwf hseq hturns hhost
  obtain ⟨hlength, t, hrun, hdone, hframe, hread⟩ :=
    wbuf_runs 4 0 l s rfl (by omega) hidle hwf hseq hturns hhost
  refine ⟨hlength, t, hrun, hdone, hframe, fun a => ?_⟩
  have hcond : 4 * 0 ≤ a ∧ a < 4 * (0 + (l.length + 3) / 4) ↔ a < (l.length + 3) / 4 * 4 := by omega
  simp only [hread a, hcond, Nat.mul_zero, Nat.sub_zero]

end Sys2Proof.Machine
end

section
/-! Whose turn it is (spec/10_state.md R20, spec/20_memory.md R61), and the platform's reset
(spec/70_reset_and_hazards.md R190). -/

namespace Sys2Proof.Machine

variable {s : State} {c : Word} {p : Pos} {i : Instr}

/-- A scripted turn is taken by its agent, in the state less that turn. -/
theorem step_of_turn {t : Turn} {rest : List Turn} (h : s.env.turns = t :: rest) :
    step s = takeTurn t (s.setEnv { s.env with turns := rest }) := by
  rw [step, h]

/-- An engine's turn runs the command the latched word decodes to (R35, R71). -/
theorem engineStep_eq_exec (hs : s.seq = .run c p) (hi : decodeWord c = .ok i) : engineStep s = exec i s := by
  rw [engineStep, hs]
  simp only [hi]

theorem tableWord_encode (i : Instr) : tableWord 32 (encode i).toNat = encode i := by
  have hlt := (encode i).isLt
  rw [tableWord, Nat.mod_eq_of_lt hlt, BitVec.ofNat_toNat, BitVec.setWidth_eq]

theorem withFetchWord_runsAt (s : State) (i : Instr) :
    (s.withFetchWord 32 (encode i).toNat).runsAt i .start none := by
  rw [State.runsAt, State.withFetchWord, tableWord_encode]
  rfl

/-- Settles O7. -/
theorem stepRunsTheDecodedCommand : Obligations.StepRunsTheDecodedCommand := by
  refine ⟨fun s c p i hs hi => ⟨step_eq_exec hs hi, fun rest hturns => ?_⟩, fun s i => ?_⟩
  · exact (step_of_turn hturns).trans (engineStep_eq_exec hs hi)
  · have hruns := withFetchWord_runsAt s i
    exact ⟨step_eq_exec hruns (decodeWord_encode i) rfl, hruns⟩

/-- Settles O8. -/
theorem turnsAreTakenByTheirAgents : Obligations.TurnsAreTakenByTheirAgents := by
  refine ⟨fun s rest hturns => step_of_turn hturns, fun s hturns hs => ?_, fun s rest hturns hs => ?_⟩
  · simp [step, hturns, defaultTurn, hs, takeTurn]
  · exact (step_of_turn hturns).trans (engineStep_idle hs)

/-- Settles O9. -/
theorem resetEndsTheRunningCommand : Obligations.ResetEndsTheRunningCommand :=
  fun _ _ hturns => step_of_turn hturns

/-- Settles O42: each raw value is made of the first two bytes received. -/
theorem byteOrdersOfRawValues : Obligations.ByteOrdersOfRawValues := by
  refine fun a b rest p => ⟨rfl, rfl, fun hle => ?_, fun hbe => ?_⟩
  · rw [lxRaw, hle]
    rfl
  · rw [lxRaw, hbe]
    rfl

end Sys2Proof.Machine
end

section
/-! The commands step by step: the first primitive, the completion poll, the status bytes, and what a failed
primitive comes to (spec/41_bridge.md R100, R105 to R108, spec/42_temperature.md R143). -/

namespace Sys2Proof.Machine

variable {p : Params} {f : Frame} {i : Instr} {s t : State} {c : Word} {pt q : Point}
  {held : Option (List Byte)} {e : Failure} {n : Nat} {a b : Byte}

/-! ## The primitives while a command runs (R12, R21) -/

theorem busSelect_of_run (k : Bool → Point) (hs : s.seq = .run c ⟨pt, held⟩) : busSelect k s = { s with
    seq := .run c ⟨k s.answer.ok, held⟩
    env := s.env.after s.env.answers.tail 1 [.select s.deviceId s.answer.ok] } := by
  have hgoto : (busSelect k s).seq = .run c ⟨k s.answer.ok, held⟩ := by rw [busSelect_seq, hs, Seq.goto_run]
  rw [← hgoto]
  rfl

theorem busRead_of_run (n : Nat) (k : Option (List Byte) → Point) (hs : s.seq = .run c ⟨pt, held⟩) :
    busRead n k s = { s with
      seq := .run c ⟨k (s.readAnswer n), held⟩
      env := s.env.after s.env.answers.tail 1 [.read n (s.readAnswer n)] } := by
  have hgoto : (busRead n k s).seq = .run c ⟨k (s.readAnswer n), held⟩ := by
    rw [busRead_seq, hs, Seq.goto_run]
  rw [← hgoto]
  rfl

theorem busReadBit_of_run (k : Option Bool → Point) (hs : s.seq = .run c ⟨pt, held⟩) :
    busReadBit k s = { s with
      seq := .run c ⟨k s.bitAnswer, held⟩
      env := s.env.after s.env.answers.tail 1 [.readBit s.bitAnswer] } := by
  have hgoto : (busReadBit k s).seq = .run c ⟨k s.bitAnswer, held⟩ := by rw [busReadBit_seq, hs, Seq.goto_run]
  rw [← hgoto]
  rfl

/-- A `Sleep` asks the bus nothing (R206). -/
theorem busSleep_of_run (us : Nat) (q : Point) (hs : s.seq = .run c ⟨pt, held⟩) : busSleep us q s = { s with
    seq := .run c ⟨q, held⟩
    env := s.env.after s.env.answers 0 [.sleep us] } := by
  have hgoto : (busSleep us q s).seq = .run c ⟨q, held⟩ := by rw [busSleep_seq, hs, Seq.goto_run]
  rw [← hgoto]
  rfl

/-! ## A frame's moves as the command's steps -/

theorem exec_of_frameMove (hs : s.seq = .run c ⟨pt, held⟩) (hf : frameOf Config.params i s held = some f)
    (h : FrameMove Config.params f s pt (.issued t)) : exec i s = .next t :=
  exec_of_move hs (.frame f hf h)

/-- A failure other than IllegalCommand writes STATUS and SEQ, and RESULT where the command produces one
(R174). -/
theorem raise_of_ran (he : e ≠ .illegalCommand) (i : Instr) (s : State) : raise i e s = { s with
    status := ⟨false, true, e.code, s.status.wign⟩
    seq := .idle
    result := if resultProducing i then 0#32 else s.result } := by
  rw [raise_eq]
  simp only [ne_eq, he, not_false_eq_true, and_true]
  rfl

/-- A failure in any command but BT_PROBE is raised by the command (R13). -/
theorem exec_of_raised (hs : s.seq = .run c ⟨pt, held⟩) (hi : i ≠ .btProbe)
    (h : Move Config.params i s held pt (.raised t e)) : exec i s = .next (raise i e t) := by
  rw [exec_of_move hs h, FrameStep.done, FrameStep.into, afterRaise_of_ne_btProbe hi]

/-! ## The status bytes (R106, R107) -/

theorem statusCheck_of_nonzero (h : ¬(a = 0x00#8 ∧ b = 0x00#8)) (p : Params) : statusCheck p ⟨a, b⟩ =
    some (if a.getLsbD p.stCrcBit then .checksumError else .busError) := by
  rw [statusCheck, if_neg h]
  split <;> rfl

theorem badStatus_move (hf : frameOf p i s held = some f) (h : ¬(a = 0x00#8 ∧ b = 0x00#8)) :
    Move p i s held (.gotStatus (some [a, b])) (.raised (s.setBrstat ⟨a, b⟩)
      (if a.getLsbD p.stCrcBit then .checksumError else .busError)) :=
  .frame f hf (.badStatus [a, b] _ (statusCheck_of_nonzero h p))

theorem exists_frameOf (hi : i ∈ frameCommands) (p : Params) (s : State) (held : Option (List Byte)) :
    ∃ f, frameOf p i s held = some f := by
  cases i with
  | brWrite | brRead | btProbe | btRead | lxInit | lxRead => exact ⟨_, rfl⟩
  | _ => exact absurd hi (by decide)

theorem exists_plainBytes (hi : i ∈ [Instr.brConfig, .dtStart, .dtRead]) (p : Params) (s : State) :
    ∃ l, plainBytes p i s = some l := by
  cases i with
  | brConfig | dtStart | dtRead => exact ⟨_, rfl⟩
  | _ => exact absurd hi (by decide)

/-! ## The statements -/

/-- Settles O6. -/
theorem busCommandsStartBySelectingTheDevice : Obligations.BusCommandsStartBySelectingTheDevice := by
  intro i s c hi hs hargs
  rw [exec_start_legal hs hargs, firstStep_of_bus hi, busSelect_of_run _ hs]
  rfl

/-- Settles O34, place by place of the poll. -/
theorem completionPollStepByStep : Obligations.CompletionPollStepByStep := by
  intro i s c held f at_ slept sampled hf
  have hmove : ∀ {pt t}, s.seq = .run c ⟨pt, held⟩ → FrameMove Config.params f s pt (.issued t) →
      exec i s = .next t := fun hs h => exec_of_frameMove hs hf h
  have hretry : ∀ {pt}, s.seq = .run c ⟨pt, held⟩ → ToRetry Config.params f 100 pt →
      exec i s = .next (sampled (.sampledRetry 99 s.bitAnswer)) := fun hs h => by
    rw [hmove hs (.sampleRetry 99 h), busReadBit_of_run _ hs]
  refine ⟨fun hs => ?sample, fun left hs => ?ready, fun hs => ?busy, fun n hs => ?sleeps, fun hs => ?slept,
    fun left hs => ?retryBusy, fun left hs => ?retry, fun hs hi => ?timeout⟩
  case sample => rw [hmove hs .sample, busReadBit_of_run _ hs]
  case ready =>
    obtain hs | hs := hs
    · rw [hmove hs (.readStatus .first), busRead_of_run _ _ hs]
    · rw [hmove hs (.readStatus (.retry left)), busRead_of_run _ _ hs]
  case busy =>
    cases hexpected : f.expected with
    | zero => exact hretry hs (.waited rfl (.first hexpected))
    | succ n => rw [hmove hs (.sleepExpected n (.first hexpected)), busSleep_of_run _ _ hs]
  case sleeps => rw [hmove hs (.sleepExpected n .slept), busSleep_of_run _ _ hs]
  case slept => exact hretry hs (.waited rfl .slept)
  case retryBusy => rw [hmove hs (.sleepRetry left), busSleep_of_run _ _ hs]
  case retry => rw [hmove hs (.sampleRetry left .slept), busReadBit_of_run _ hs]
  case timeout =>
    rw [exec_of_raised hs hi (.frame f hf (.timeout .slept)), raise_of_ran (e := .timeoutError) nofun]
    rfl

/-- Settles O35: every such place is one after a failed primitive of the command's pseudocode. -/
theorem failedPrimitiveRaisesBusError : Obligations.FailedPrimitiveRaisesBusError := by
  intro i s c pt hs hplace
  have hmove : Move Config.params i s none pt (.raised s .busError) := by
    obtain ⟨hi, hpt⟩ | ⟨hi, hpt⟩ := hplace
    · obtain ⟨l, hl⟩ := exists_plainBytes hi Config.params s
      obtain rfl | rfl | ⟨rfl, rfl⟩ := hpt
      · exact .selectFailed l hl
      · exact .sendFailed l hl
      · exact .readFailed rfl
    · have hframe : ∀ j ∈ [Instr.brWrite, .brRead, .btRead, .lxInit, .lxRead], j ∈ frameCommands := by decide
      obtain ⟨f, hf⟩ := exists_frameOf (hframe i hi) Config.params s none
      refine .frame f hf (.failed ?_ fun hread => ?_)
      · obtain rfl | ⟨k, rfl⟩ | rfl | rfl | ⟨left, rfl⟩ | rfl | ⟨-, rfl⟩ := hpt <;> rfl
      · subst hread
        rw [payload_of_frameOf hf]
        cases i <;> simp_all [payloadSize]
  have hne : i ≠ .btProbe := by rintro rfl; revert hplace; simp
  have hresult : resultProducing i = true ↔ i ∈ [Instr.dtRead, .btRead, .lxRead] := by
    cases i <;> simp_all [resultProducing]
  rw [exec_of_raised hs hne hmove, raise_of_ran (e := .busError) nofun]
  simp only [hresult]
  rfl

/-- Settles O36. -/
theorem statusBytesDecide : Obligations.StatusBytesDecide := by
  intro i s c a b held hs
  refine ⟨fun hi hab => ?_, fun n hin ha hb => ?_⟩
  · have hframe : ∀ j ∈ [Instr.brWrite, .brRead, .btRead, .lxInit, .lxRead],
        j ∈ frameCommands ∧ j ≠ .btProbe := by decide
    obtain ⟨hmem, hne⟩ := hframe i hi
    obtain ⟨f, hf⟩ := exists_frameOf hmem Config.params s held
    rw [exec_of_raised hs hne (badStatus_move hf hab)]
    split
    · rw [raise_of_ran (e := .checksumError) nofun]
      rfl
    · rw [raise_of_ran (e := .busError) nofun]
      rfl
  · subst ha hb
    have hn : payloadSize i s = some n ∧ i ∈ frameCommands := by
      simp only [List.mem_cons, Prod.mk.injEq, List.not_mem_nil, or_false] at hin
      obtain ⟨rfl, rfl⟩ | ⟨rfl, rfl⟩ | ⟨rfl, rfl⟩ | ⟨rfl, rfl⟩ := hin <;> exact ⟨rfl, by decide⟩
    obtain ⟨f, hf⟩ := exists_frameOf hn.2 Config.params s held
    have hpay := (payload_of_frameOf hf).trans hn.1
    rw [exec_of_frameMove hs hf (.readPayload _ n rfl rfl hpay),
      busRead_of_run n .gotPayload ((State.setBrstat_seq s _).trans hs)]
    rfl

/-- BT_PROBE's move in the frame that the bytes it holds put it in, as its step (R143). -/
theorem exec_btProbe_of_move {r : FrameStep} (hs : s.seq = .run c ⟨pt, held⟩)
    (h : ∀ f, f.payload = some 2 → FrameMove Config.params f s pt r) :
    exec .btProbe s = .next (r.done Config.params .btProbe held) := by
  obtain ⟨f, hf⟩ := exists_frameOf (i := .btProbe) (by decide) Config.params s held
  exact exec_of_move hs (.frame f hf (h f (payload_of_frameOf hf)))

theorem probeVerdict_eq (p : Params) (mfr dev : Half) (s : State) : probeVerdict p mfr dev s = { s with
    result := if mfr = p.btMfrId ∧ dev = p.btDevId then 1#32 else 0#32
    status := ⟨false, false, if mfr = p.btMfrId ∧ dev = p.btDevId then 0#3 else 5#3, s.status.wign⟩
    seq := .idle } := by
  rw [probeVerdict]
  by_cases h : mfr = p.btMfrId ∧ dev = p.btDevId
  · simp only [if_pos h]
    rfl
  · simp only [if_neg h]
    rfl

/-- The end of the first frame starts the second one, the received bytes stored and held (R143). -/
theorem exec_btProbe_handOver {d : List Byte} (hd : d.length = 2)
    (hs : s.seq = .run c ⟨.gotPayload (some d), none⟩) : exec .btProbe s = .next { s with
      buf := s.buf.writeList 0 d
      seq := .run c ⟨.selected s.answer.ok, some d⟩
      env := s.env.after s.env.answers.tail 1 [.select s.deviceId s.answer.ok] } := by
  have htake : d.take 2 = d := List.take_of_length_le hd.le
  have hheld : ((storePayload 2 d s).hold d).seq = .run c ⟨.gotPayload (some d), some d⟩ := by
    show s.seq.hold d = _
    rw [hs, Seq.hold_run]
  rw [exec_btProbe_of_move hs fun f hpay => .store d 2 hpay, FrameStep.done, FrameStep.into, afterReturn,
    frameStart, busSelect_of_run _ hheld, storePayload, htake]
  rfl

/-- Settles O50: the verdict, the hand-over, and the failures of either frame, a timeout among them. -/
theorem btProbeCompletes : Obligations.BtProbeCompletes := by
  refine fun s c => ⟨fun m1 m0 d1 d0 hs => ?verdict, fun m1 m0 hs => exec_btProbe_handOver rfl hs,
    fun pt held hs hpt => ?failed, fun a b held hs hab => ?badStatus⟩
  case verdict =>
    rw [exec_btProbe_of_move hs fun f hpay => .store _ 2 hpay, FrameStep.done, FrameStep.into, afterReturn,
      probeVerdict_eq]
    rfl
  case failed =>
    have hmove : ∃ e, ∀ f, f.payload = some 2 → FrameMove Config.params f s pt (.raised s e) := by
      obtain rfl | ⟨k, rfl⟩ | rfl | rfl | ⟨left, rfl⟩ | rfl | rfl | rfl := hpt
      case inr.inr.inr.inr.inr.inl => exact ⟨_, fun f _ => .timeout .slept⟩
      all_goals exact ⟨_, fun f hpay => .failed rfl fun _ => by simp [hpay]⟩
    obtain ⟨e, hmove⟩ := hmove
    exact exec_btProbe_of_move hs hmove
  case badStatus =>
    exact exec_btProbe_of_move hs fun f _ => .badStatus [a, b] _ (statusCheck_of_nonzero hab _)

end Sys2Proof.Machine
end

section
/-! Runs of a frame over scripted answers of the bus (spec/41_bridge.md R101 to R108, R112): its `BusWrite`s, the
completion poll of a ready and of a busy bridge, and the status bytes. -/

namespace Sys2Proof.Machine

variable {f : Frame} {i : Instr} {s t u : State} {c : Word} {pt q : Point} {held : Option (List Byte)}
  {rest : List BusAnswer} {l d : List Byte} {j k m n : Nat} {acc : Half} {b : Bool}

/-! ## States further on in a command -/

theorem Env.after_after (e : Env) (rest rest' : List BusAnswer) (n n' : Nat) (ev ev' : List BusEvent) :
    (e.after rest n ev).after rest' n' ev' = e.after rest' (n + n') (ev ++ ev') := by
  simp [Env.after, Nat.add_assoc]

/-- `s` further on in its running command: at the place `q`, with CRC.ACC at `acc`, after `n` answers of the bus,
`rest` of them left, and `events`. -/
def State.advance (s : State) (q : Point) (acc : Half) (rest : List BusAnswer) (n : Nat)
    (events : List BusEvent) : State :=
  { s with acc := acc, seq := s.seq.goto q, env := s.env.after rest n events }

theorem State.advance_advance (s : State) (q q' : Point) (acc acc' : Half) (rest rest' : List BusAnswer)
    (n n' : Nat) (ev ev' : List BusEvent) :
    (s.advance q acc rest n ev).advance q' acc' rest' n' ev' =
      s.advance q' acc' rest' (n + n') (ev ++ ev') := by
  have hgoto : (s.seq.goto q).goto q' = s.seq.goto q' := by cases s.seq <;> rfl
  rw [State.advance, State.advance, State.advance, Env.after_after, hgoto]

theorem State.advance_self (hs : s.seq = .run c ⟨pt, held⟩) : s.advance pt s.acc s.env.answers 0 [] = s := by
  have hgoto : s.seq.goto pt = s.seq := by rw [hs, Seq.goto_run]
  simp [State.advance, Env.after, hgoto]

theorem steps_trans (h : steps j s = .next t) (h' : steps k t = .next u) : steps (j + k) s = .next u :=
  (steps_add j k h).trans h'

/-! ## Scripted answers (R12) -/

theorem answer_cons {a : BusAnswer} (h : s.env.answers = a :: rest) : s.answer = a := by
  rw [State.answer, h]

/-- An answer with as many bytes as are read is those bytes. -/
theorem readAnswer_got (h : s.env.answers = .got l :: rest) : s.readAnswer l.length = some l := by
  have hbytes : s.answerBytes l.length = l := by
    apply List.ext_getElem
    · exact answerBytes_length s l.length
    · intro k hk hkl
      simp [State.answerBytes, answer_cons h, BusAnswer.got, hkl]
  rw [State.readAnswer, answer_cons h, hbytes]
  rfl

theorem bitAnswer_sample (h : s.env.answers = .sample b :: rest) : s.bitAnswer = some b := by
  rw [State.bitAnswer, answer_cons h]
  rfl

/-! ## The primitives over scripted answers -/

theorem answered_goto {a : BusAnswer} (h : s.env.answers = a :: rest) (ev : BusEvent) (q : Point) :
    (s.answered ev).goto q = s.advance q s.acc rest 1 [ev] := by
  have htail : s.env.answers.tail = rest := by rw [h]; rfl
  rw [← htail]
  rfl

theorem busSelect_yes (q : Bool → Point) (h : s.env.answers = .yes :: rest) :
    busSelect q s = s.advance (q true) s.acc rest 1 [.select s.deviceId true] := by
  rw [busSelect, answer_cons h, answered_goto h]
  rfl

theorem busWrite_yes (l : List Byte) (q : Bool → Point) (h : s.env.answers = .yes :: rest) :
    busWrite l q s = s.advance (q true) s.acc rest 1 [.write l true] := by
  rw [busWrite, answer_cons h, answered_goto h]
  rfl

theorem busRead_got (hl : l.length = n) (q : Option (List Byte) → Point) (h : s.env.answers = .got l :: rest) :
    busRead n q s = s.advance (q (some l)) s.acc rest 1 [.read n (some l)] := by
  subst hl
  rw [busRead, readAnswer_got h, answered_goto h]

theorem busReadBit_sample (q : Option Bool → Point) (h : s.env.answers = .sample b :: rest) :
    busReadBit q s = s.advance (q (some b)) s.acc rest 1 [.readBit (some b)] := by
  rw [busReadBit, bitAnswer_sample h, answered_goto h]

theorem busSleep_eq (us : Nat) (q : Point) (s : State) :
    busSleep us q s = s.advance q s.acc s.env.answers 0 [.sleep us] := rfl

/-! ## Being in a frame -/

/-- Command `i` runs, in its frame `f`, at the place `pt`, and no turn is scripted. -/
structure InFrame (i : Instr) (c : Word) (held : Option (List Byte)) (f : Frame) (s : State) (pt : Point) :
    Prop where
  seq : s.seq = .run c ⟨pt, held⟩
  word : decodeWord c = .ok i
  frame : frameOf Config.params i s held = some f
  turns : s.env.turns = []

theorem InFrame.advance (h : InFrame i c held f s pt) (q : Point) (acc : Half) (rest : List BusAnswer)
    (n : Nat) (events : List BusEvent) : InFrame i c held f (s.advance q acc rest n events) q where
  seq := by rw [State.advance, h.seq, Seq.goto_run]
  word := h.word
  frame := (frameOf_congr (t := s.advance q acc rest n events) rfl rfl (fun _ => rfl) _ _).trans h.frame
  turns := h.turns

/-- A frame's move is one step of the machine. -/
theorem InFrame.steps_one (h : InFrame i c held f s pt) (hmove : FrameMove Config.params f s pt (.issued t)) :
    steps 1 s = .next t :=
  steps_succ 0 ((step_eq_exec h.seq h.word h.turns).trans (exec_of_frameMove h.seq h.frame hmove))

/-! ## The writes of a frame (R101, R103) -/

/-- The `BusWrite`s of a frame: the byte lists `ls`, and the trailer of the checksum `sum`. -/
def writeEvents (ls : List (List Byte)) (sum : Half) : List BusEvent :=
  ls.map (fun l => .write l true) ++ [.write (trailer sum) true]

theorem frameSend_later_yes (hk : 1 ≤ k) (hl : f.chunks[k]? = some l)
    (hanswers : s.env.answers = .yes :: rest) : frameSend f k s =
      s.advance (.sent (k + 1) true) (crc16 s.acc l) rest 1 [.write l true] := by
  rw [frameSend_later hk hl, busWrite_yes l _ (s := s.setAcc (crc16 s.acc l)) hanswers]
  rfl

theorem frameSend_first_yes (hl : f.chunks[0]? = some l) (hanswers : s.env.answers = .yes :: rest) :
    frameSend f 0 s = s.advance (.sent 1 true) (crc16 0x0000#16 l) rest 1 [.write l true] := by
  rw [frameSend_first hl, busWrite_yes l _ (s := s.setAcc (crc16 0x0000#16 l)) hanswers]
  rfl

theorem frameSend_trailer_yes (hk : f.chunks[k]? = none) (hanswers : s.env.answers = .yes :: rest) :
    frameSend f k s = s.advance (.sentTrailer true) s.acc rest 1 [.write (trailer s.acc) true] := by
  rw [frameSend, hk]
  exact busWrite_yes _ _ hanswers

/-- The later byte lists and the trailer, each answered ok: by induction on the byte lists still to send. -/
theorem send_later_run (ls : List (List Byte)) : ∀ {s : State} {k : Nat}, 1 ≤ k →
    f.chunks.drop k = ls → InFrame i c held f s (.sent k true) →
    s.env.answers = List.replicate (ls.length + 1) .yes ++ rest →
    steps (ls.length + 1) s = .next (s.advance (.sentTrailer true) (crc16 s.acc ls.flatten) rest (ls.length + 1)
      (writeEvents ls (crc16 s.acc ls.flatten))) := by
  induction ls with
  | nil =>
    intro s k hk hdrop h hanswers
    have hnone : f.chunks[k]? = none := by rw [← List.head?_drop, hdrop]; rfl
    exact (h.steps_one (.sendNext k)).trans (congrArg _ (frameSend_trailer_yes hnone hanswers))
  | cons l ls ih =>
    intro s k hk hdrop h hanswers
    have hl : f.chunks[k]? = some l := by rw [← List.head?_drop, hdrop]; rfl
    have hdrop' : f.chunks.drop (k + 1) = ls := by rw [← List.tail_drop, hdrop]; rfl
    have hstep := h.steps_one (.sendNext k)
    rw [frameSend_later_yes hk hl hanswers] at hstep
    have hrun := ih (by omega) hdrop' (h.advance _ (crc16 s.acc l) _ 1 [.write l true]) rfl
    have hsum : crc16 (crc16 s.acc l) ls.flatten = crc16 s.acc (l :: ls).flatten := by
      rw [List.flatten_cons, crc16_append]
    have hall := steps_trans hstep hrun
    rw [State.advance_advance, Nat.add_comm 1] at hall
    rw [← hsum]
    exact hall

/-- All byte lists of a frame and the trailer, each answered ok; CRC.ACC is left at the frame's checksum. -/
theorem send_run (hl : f.chunks ≠ []) (h : InFrame i c held f s (.selected true))
    (hanswers : s.env.answers = List.replicate (f.chunks.length + 1) .yes ++ rest) :
    steps (f.chunks.length + 1) s = .next (s.advance (.sentTrailer true) (crc16 0x0000#16 f.chunks.flatten) rest
      (f.chunks.length + 1) (writeEvents f.chunks (crc16 0x0000#16 f.chunks.flatten))) := by
  cases hchunks : f.chunks with
  | nil => exact absurd hchunks hl
  | cons l ls =>
    rw [hchunks] at hanswers
    have hfirst : f.chunks[0]? = some l := by rw [hchunks]; rfl
    have hstep := h.steps_one .sendFirst
    rw [frameSend_first_yes hfirst hanswers] at hstep
    have hrun := send_later_run (rest := rest) ls (Nat.le_refl 1) (by rw [hchunks]; rfl)
      (h.advance _ (crc16 0x0000#16 l) _ 1 [.write l true]) rfl
    have hall := steps_trans hstep hrun
    rw [State.advance_advance, Nat.add_comm 1] at hall
    rw [List.flatten_cons, crc16_append]
    exact hall

/-! ## The completion poll (R105, R106) -/

/-- A ready bridge: one sample of 0, then the status bytes. -/
theorem poll_ready_run (h : InFrame i c held f s (.sentTrailer true)) (hd : d.length = 2)
    (hanswers : s.env.answers = .sample false :: .got d :: rest) :
    steps 2 s = .next (s.advance (.gotStatus (some d)) s.acc rest 2
      [.readBit (some false), .read 2 (some d)]) := by
  have hsample := h.steps_one .sample
  rw [busReadBit_sample _ hanswers] at hsample
  have hstatus := (h.advance (.sampledFirst (some false)) s.acc (.got d :: rest) 1
    [.readBit (some false)]).steps_one (.readStatus .first)
  rw [busRead_got hd _ rfl] at hstatus
  have hall := steps_trans hsample hstatus
  rwa [State.advance_advance] at hall

/-- The microseconds of one base wait unit, as an event (R105). -/
def unitSleep (s : State) : BusEvent := .sleep (Config.params.unitUs s.cfg.speed)

/-- The expected wait, by induction on the sleeps still to come. -/
theorem expected_run (n : Nat) : ∀ {s : State} {pt : Point}, InFrame i c held f s pt → ToExpected f n pt →
    ∃ q, ToExpected f 0 q ∧ steps n s = .next (s.advance q s.acc s.env.answers 0
      (List.replicate n (unitSleep s))) := by
  induction n with
  | zero =>
    intro s pt h hpt
    exact ⟨pt, hpt, by rw [List.replicate_zero, State.advance_self h.seq]; rfl⟩
  | succ n ih =>
    intro s pt h hpt
    have hstep := h.steps_one (.sleepExpected n hpt)
    rw [busSleep_eq] at hstep
    obtain ⟨q, hq, hrun⟩ := ih (h.advance (.sleptExpected n) s.acc s.env.answers 0 [unitSleep s]) .slept
    have hall := steps_trans hstep hrun
    rw [Nat.add_comm 1] at hall
    exact ⟨q, hq, hall.trans (congrArg _ (State.advance_advance ..))⟩

/-- The rounds of the retry loop whose samples are 1, by induction on their number (R105). -/
theorem retry_run (j : Nat) : ∀ {s : State} {pt : Point}, InFrame i c held f s pt →
    ToRetry Config.params f (n + j) pt → s.env.answers = List.replicate j (.sample true) ++ rest →
    ∃ q, ToRetry Config.params f n q ∧ steps (2 * j) s = .next (s.advance q s.acc rest j
      (List.replicate j [.readBit (some true), unitSleep s]).flatten) := by
  induction j with
  | zero =>
    intro s pt h hpt hanswers
    exact ⟨pt, hpt, by rw [← List.nil_append rest, ← List.replicate_zero, ← hanswers, List.replicate_zero,
      List.flatten_nil, State.advance_self h.seq]; rfl⟩
  | succ j ih =>
    intro s pt h hpt hanswers
    have hsample := h.steps_one (.sampleRetry (n + j) hpt)
    rw [busReadBit_sample _ hanswers] at hsample
    have hin := h.advance (.sampledRetry (n + j) (some true)) s.acc
      (List.replicate j (.sample true) ++ rest) 1 [.readBit (some true)]
    have hsleep := hin.steps_one (.sleepRetry (n + j))
    rw [busSleep_eq] at hsleep
    have hround := steps_trans hsample hsleep
    rw [State.advance_advance] at hround
    obtain ⟨q, hq, hrun⟩ := ih (h.advance (.sleptRetry (n + j)) s.acc
      (List.replicate j (.sample true) ++ rest) 1 [.readBit (some true), unitSleep s]) .slept rfl
    have hall := steps_trans hround hrun
    have hsteps : 1 + 1 + 2 * j = 2 * (j + 1) := by omega
    rw [State.advance_advance, hsteps, Nat.add_comm 1] at hall
    exact ⟨q, hq, hall⟩

/-- A bridge that shows ready in the retry loop: one more sample, of 0, then the status bytes. -/
theorem retry_ready_run (h : InFrame i c held f s pt) (hpt : ToRetry Config.params f (n + 1) pt)
    (hd : d.length = 2) (hanswers : s.env.answers = .sample false :: .got d :: rest) :
    steps 2 s = .next (s.advance (.gotStatus (some d)) s.acc rest 2
      [.readBit (some false), .read 2 (some d)]) := by
  have hsample := h.steps_one (.sampleRetry n hpt)
  rw [busReadBit_sample _ hanswers] at hsample
  have hstatus := (h.advance (.sampledRetry n (some false)) s.acc (.got d :: rest) 1
    [.readBit (some false)]).steps_one (.readStatus (.retry n))
  rw [busRead_got hd _ rfl] at hstatus
  have hall := steps_trans hsample hstatus
  rwa [State.advance_advance] at hall

/-- A busy bridge: the first sample of 1, the expected wait, and `j` rounds of the retry loop. -/
theorem poll_busy_run (h : InFrame i c held f s (.sentTrailer true)) (hj : n + j = Config.params.retry)
    (hanswers : s.env.answers = .sample true :: (List.replicate j (.sample true) ++ rest)) :
    ∃ q, ToRetry Config.params f n q ∧ steps (1 + f.expected + 2 * j) s = .next (s.advance q s.acc rest (j + 1)
      (.readBit (some true) :: (List.replicate f.expected (unitSleep s) ++
        (List.replicate j [.readBit (some true), unitSleep s]).flatten))) := by
  have hsample := h.steps_one .sample
  rw [busReadBit_sample _ hanswers] at hsample
  have hin := h.advance (.sampledFirst (some true)) s.acc (List.replicate j (.sample true) ++ rest) 1
    [.readBit (some true)]
  obtain ⟨q, hq, hwait⟩ := expected_run f.expected hin (.first rfl)
  have hwaited := steps_trans hsample hwait
  rw [State.advance_advance] at hwaited
  obtain ⟨q', hq', hretry⟩ := retry_run (rest := rest) j (h.advance q s.acc
    (List.replicate j (.sample true) ++ rest) (1 + 0) (.readBit (some true) ::
      List.replicate f.expected (unitSleep s))) (.waited hj hq) rfl
  have hall := steps_trans hwaited hretry
  rw [State.advance_advance, Nat.add_comm _ j] at hall
  exact ⟨q', hq', hall⟩

end Sys2Proof.Machine
end

section
/-! The commands that use the bus and send no frame: BR_CONFIG, DT_START and DT_READ, step by step and as runs
(spec/41_bridge.md R109, spec/42_temperature.md R132, R133). -/

namespace Sys2Proof.Machine

variable {i : Instr} {s t : State} {c : Word} {held : Option (List Byte)} {pt : Point}
  {rest : List BusAnswer} {l d : List Byte}

/-! ## The steps -/

/-- The first step of a bus command whose select the bus answers ok, as a step of the machine. -/
theorem select_run (hi : i ∈ busCommands) (hs : s.runsAt i .start none) (hturns : s.env.turns = [])
    (hargs : argsIllegal Config.params i s = false) (hanswers : s.env.answers = .yes :: rest) :
    steps 1 s = .next (s.advance (.selected true) s.acc rest 1 [.select s.deviceId true]) := by
  refine steps_succ 0 ((step_eq_exec hs (decodeWord_encode i) hturns).trans ?_)
  rw [exec_start_legal hs hargs, firstStep_of_bus hi, busSelect_yes _ hanswers]

/-- A step of a command with no scripted turn. -/
theorem steps_one_of_exec (hs : s.runsAt i pt held) (hturns : s.env.turns = []) (h : exec i s = .next t) :
    steps 1 s = .next t :=
  steps_succ 0 ((step_eq_exec hs (decodeWord_encode i) hturns).trans h)

theorem advance_runsAt {q : Point} {acc : Half} {n : Nat} {ev : List BusEvent} (hs : s.runsAt i pt held) :
    (s.advance q acc rest n ev).runsAt i q held := by
  rw [State.runsAt, State.advance, hs, Seq.goto_run]

/-- The one `BusWrite` of such a command, whatever the bus answers. -/
theorem exec_send (hl : plainBytes Config.params i s = some l) (hs : s.seq = .run c ⟨.selected true, held⟩) :
    exec i s = .next { s with
      seq := .run c ⟨.sent 1 s.answer.ok, held⟩
      env := s.env.after s.env.answers.tail 1 [.write l s.answer.ok] } := by
  rw [exec_of_move hs (.send l hl), ← busWrite_of_run l (.sent 1) hs]
  rfl

/-- BR_CONFIG and DT_START end after it (R109, R132). -/
theorem exec_sent (hi : i = .brConfig ∨ i = .dtStart) (hs : s.seq = .run c ⟨.sent 1 true, held⟩) :
    exec i s = .next { s with status := ⟨false, false, 0#3, s.status.wign⟩, seq := .idle } := by
  rw [exec_of_move hs (.sent hi)]
  obtain rfl | rfl := hi <;> rfl

/-! ## The runs -/

theorem plainBytes_congr (hcfg : t.cfg = s.cfg) (p : Params) (i : Instr) :
    plainBytes p i t = plainBytes p i s := by
  cases i <;> simp [plainBytes, hcfg]

/-- Select and `BusWrite`, both answered ok. -/
theorem select_send_run (hl : plainBytes Config.params i s = some l) (hs : s.runsAt i .start none)
    (hturns : s.env.turns = []) (hargs : argsIllegal Config.params i s = false)
    (hanswers : s.env.answers = .yes :: .yes :: rest) :
    steps 2 s = .next (s.advance (.sent 1 true) s.acc rest 2 [.select s.deviceId true, .write l true]) := by
  have hselect := select_run (mem_busCommands_of_plainBytes hl) hs hturns hargs hanswers
  refine (steps_trans (k := 1) hselect (steps_one_of_exec (advance_runsAt hs) hturns
    (exec_of_move (advance_runsAt hs) (.send l ((plainBytes_congr (s := s) rfl _ i).trans hl))))).trans ?_
  rw [FrameStep.done, FrameStep.into, busWrite_yes l _ rfl, State.advance_advance]
  rfl

/-- The whole run of BR_CONFIG and DT_START over ok answers. -/
theorem plain_run (hi : i = .brConfig ∨ i = .dtStart) (hl : plainBytes Config.params i s = some l)
    (hs : s.runsAt i .start none) (hturns : s.env.turns = []) (hargs : argsIllegal Config.params i s = false)
    (hanswers : s.env.answers = .yes :: .yes :: rest) : steps 3 s = .next { s with
      status := ⟨false, false, 0#3, s.status.wign⟩
      seq := .idle
      env := s.env.after rest 2 [.select s.deviceId true, .write l true] } := by
  have hsend := select_send_run hl hs hturns hargs hanswers
  exact steps_trans hsend
    (steps_one_of_exec (advance_runsAt hs) hturns (exec_sent hi (advance_runsAt hs)))

/-! ## The last step of DT_READ (R131, R133, R175) -/

theorem exec_dtRead_stored (hd : d.length = 9) (hs : s.seq = .run c ⟨.gotPayload (some d), held⟩) :
    exec .dtRead s = .next (afterReturn Config.params .dtRead held (s.setBuf (s.buf.writeList 0 d)) d) := by
  have htake : d.take 9 = d := List.take_of_length_le hd.le
  rw [exec_of_move hs (.storeScratchpad rfl d), FrameStep.done, FrameStep.into, storePayload, scratchpadSize,
    htake]

/-! ## The statements -/

/-- Settles O32. -/
theorem brConfigCompletes : Obligations.BrConfigCompletes := by
  refine ⟨fun s c hs => exec_send rfl hs, fun s c hs => exec_sent (.inl rfl) hs,
    fun s rest hs hturns hspeed hanswers => ?_⟩
  have hargs : argsIllegal Config.params .brConfig s = false := by
    rw [← Bool.not_eq_true]
    exact fun h => hspeed ((speedIllegal_iff s).1 h)
  exact plain_run (.inl rfl) rfl hs hturns hargs hanswers

/-- Settles O44. -/
theorem dtStartCompletes : Obligations.DtStartCompletes :=
  ⟨fun _ _ hs => exec_send rfl hs, fun _ _ hs => exec_sent (.inr rfl) hs,
    fun _ _ hs hturns hanswers => plain_run (.inr rfl) rfl hs hturns rfl hanswers⟩

/-- Settles O45: the checksum is judged before the range, and neither undoes the store. -/
theorem dtReadCompletes : Obligations.DtReadCompletes := by
  refine ⟨?lastStep, fun s rest d hs hturns hd hanswers => ?run⟩
  case lastStep =>
    intro s c d hs hd raw intact inRange
    refine ⟨?_, fun ⟨hmin, hmax⟩ => toInt_ofInt_word (by omega) (by omega)⟩
    have hraw : dtRaw d = raw := rfl
    rw [exec_dtRead_stored hd hs, afterReturn, hraw]
    by_cases hintact : intact
    · rw [if_pos hintact]
      by_cases hin : inRange
      · rw [dtResult_of_inRange hin.1 hin.2]
        simp only [hintact, hin, not_true_eq_false, if_false, and_self, if_true]
        rfl
      · rw [dtResult_of_outOfRange rfl ((not_and_or.1 hin).imp Int.not_le.1 Int.not_le.1)]
        simp only [hintact, hin, not_true_eq_false, not_false_eq_true, if_false, and_false, if_true]
        rfl
    · rw [if_neg hintact, raise_of_resultProducing (e := .checksumError) rfl nofun]
      simp only [hintact, not_false_eq_true, false_and, if_false, if_true]
      rfl
  case run =>
    have hsend := select_send_run (i := .dtRead) rfl hs hturns rfl hanswers
    refine (steps_trans (k := 1) hsend (steps_one_of_exec (advance_runsAt hs) hturns
      (exec_of_move (advance_runsAt hs) (.readScratchpad rfl)))).trans ?_
    rw [FrameStep.done, FrameStep.into, scratchpadSize, busRead_got hd _ rfl, State.advance_advance,
      State.advance, hs]
    rfl

end Sys2Proof.Machine
end

section
/-! The commands that send frames as whole runs, over a ready bridge and over a busy one (spec/41_bridge.md R104 to
R112, spec/42_temperature.md R143, R144, spec/43_illuminance.md R161, R162). -/

namespace Sys2Proof.Machine

variable {f : Frame} {i : Instr} {s t : State} {c : Word} {pt : Point} {held : Option (List Byte)}
  {rest : List BusAnswer} {d : List Byte} {n : Nat}

/-! ## A frame over a ready bridge -/

/-- What a frame with checksum `sum` does after its select: the writes, one sample of 0 and two zero status
bytes. -/
def readyEvents (ls : List (List Byte)) (sum : Half) : List BusEvent :=
  writeEvents ls sum ++ [.readBit (some false), .read 2 (some [0x00#8, 0x00#8])]

/-- From an ok select to the status bytes. -/
theorem frame_ready_run (hl : f.chunks ≠ []) (h : InFrame i c held f s (.selected true))
    (hanswers : s.env.answers = List.replicate (f.chunks.length + 1) .yes ++
      .sample false :: .got [0x00#8, 0x00#8] :: rest) :
    steps (f.chunks.length + 3) s = .next (s.advance (.gotStatus (some [0x00#8, 0x00#8]))
      (crc16 0x0000#16 f.chunks.flatten) rest (f.chunks.length + 3)
      (readyEvents f.chunks (crc16 0x0000#16 f.chunks.flatten))) := by
  have hsend := send_run hl h hanswers
  have hpoll := poll_ready_run (rest := rest) (h.advance (.sentTrailer true) (crc16 0x0000#16 f.chunks.flatten) _
    (f.chunks.length + 1) (writeEvents f.chunks (crc16 0x0000#16 f.chunks.flatten)))
    (d := [0x00#8, 0x00#8]) rfl rfl
  have hall := steps_trans hsend hpoll
  rwa [State.advance_advance] at hall

/-- A command that sends a frame is in it after an ok select. -/
theorem inFrame_selected (hs : s.runsAt i .start none) (hturns : s.env.turns = [])
    (hf : frameOf Config.params i s none = some f) (answers : List BusAnswer) :
    InFrame i (encode i) none f (s.advance (.selected true) s.acc answers 1 [.select s.deviceId true])
      (.selected true) :=
  (InFrame.mk (pt := .start) hs (decodeWord_encode i) hf hturns).advance ..

theorem busCommands_of_frame (hf : frameOf Config.params i s held = some f) : i ∈ busCommands := by
  have hsub : ∀ j ∈ frameCommands, j ∈ busCommands := by decide
  exact hsub i (mem_frameCommands_of_frameOf hf)

/-- From the start to the status bytes. -/
theorem command_ready_run (hs : s.runsAt i .start none) (hturns : s.env.turns = [])
    (hargs : argsIllegal Config.params i s = false) (hf : frameOf Config.params i s none = some f)
    (hl : f.chunks ≠ []) (hanswers : s.env.answers = .yes :: (List.replicate (f.chunks.length + 1) .yes ++
      .sample false :: .got [0x00#8, 0x00#8] :: rest)) :
    steps (f.chunks.length + 4) s = .next (s.advance (.gotStatus (some [0x00#8, 0x00#8]))
      (crc16 0x0000#16 f.chunks.flatten) rest (f.chunks.length + 4)
      (.select s.deviceId true :: readyEvents f.chunks (crc16 0x0000#16 f.chunks.flatten))) := by
  have hselect := select_run (busCommands_of_frame hf) hs hturns hargs hanswers
  have hframe := frame_ready_run (rest := rest) hl (inFrame_selected hs hturns hf _) rfl
  have hall := steps_trans hselect hframe
  rw [State.advance_advance, Nat.add_comm 1] at hall
  exact hall

/-! ## The write commands (R104, R110, R161) -/

/-- Two zero status bytes end a write frame, and with it the command. -/
theorem exec_endWrite (hi : i = .brWrite ∨ i = .lxInit)
    (hs : s.seq = .run c ⟨.gotStatus (some [0x00#8, 0x00#8]), held⟩) : exec i s = .next { s with
      brstat := ⟨0x00#8, 0x00#8⟩
      status := ⟨false, false, 0#3, s.status.wign⟩
      seq := .idle } := by
  obtain ⟨f, hf⟩ := exists_frameOf (i := i) (by obtain rfl | rfl := hi <;> decide) Config.params s held
  have hpay : f.payload = none := (payload_of_frameOf hf).trans (by obtain rfl | rfl := hi <;> rfl)
  rw [exec_of_move hs (.frame f hf (.endWrite [0x00#8, 0x00#8] rfl rfl hpay))]
  obtain rfl | rfl := hi <;> rfl

/-- The whole run of a command that writes a frame. -/
theorem write_run (hi : i = .brWrite ∨ i = .lxInit) (hs : s.runsAt i .start none) (hturns : s.env.turns = [])
    (hargs : argsIllegal Config.params i s = false) (hf : frameOf Config.params i s none = some f)
    (hl : f.chunks ≠ []) (hanswers : s.env.answers = .yes :: (List.replicate (f.chunks.length + 1) .yes ++
      .sample false :: .got [0x00#8, 0x00#8] :: rest)) :
    steps (f.chunks.length + 5) s = .next { s with
      acc := crc16 0x0000#16 f.chunks.flatten
      brstat := ⟨0x00#8, 0x00#8⟩
      status := ⟨false, false, 0#3, s.status.wign⟩
      seq := .idle
      env := s.env.after rest (f.chunks.length + 4)
        (.select s.deviceId true :: readyEvents f.chunks (crc16 0x0000#16 f.chunks.flatten)) } :=
  steps_trans (k := 1) (command_ready_run hs hturns hargs hf hl hanswers)
    (steps_one_of_exec (advance_runsAt hs) hturns (exec_endWrite hi (advance_runsAt hs)))

/-! ## The read commands (R108) -/

/-- After two zero status bytes the payload is read. -/
theorem payload_run (h : InFrame i c held f s (.gotStatus (some [0x00#8, 0x00#8]))) (hpay : f.payload = some n)
    (hd : d.length = n) (hanswers : s.env.answers = .got d :: rest) :
    steps 1 s = .next ((s.setBrstat ⟨0x00#8, 0x00#8⟩).advance (.gotPayload (some d)) s.acc rest 1
      [.read n (some d)]) := by
  rw [h.steps_one (.readPayload _ n rfl rfl hpay),
    busRead_got hd _ (s := s.setBrstat ⟨0x00#8, 0x00#8⟩) hanswers]
  rfl

/-- A read frame from an ok select to its payload. -/
theorem frame_read_run (hl : f.chunks.length = 3) (hpay : f.payload = some n)
    (h : InFrame i c held f s (.selected true)) (hd : d.length = n)
    (hanswers : s.env.answers =
      .yes :: .yes :: .yes :: .yes :: .sample false :: .got [0x00#8, 0x00#8] :: .got d :: rest) :
    steps 7 s = .next ((s.setBrstat ⟨0x00#8, 0x00#8⟩).advance (.gotPayload (some d))
      (crc16 0x0000#16 f.chunks.flatten) rest 7
      (readyEvents f.chunks (crc16 0x0000#16 f.chunks.flatten) ++ [.read n (some d)])) := by
  have hne : f.chunks ≠ [] := by rintro hnil; simp [hnil] at hl
  have hready := frame_ready_run (rest := .got d :: rest) hne h (by rw [hl]; exact hanswers)
  rw [hl] at hready
  have hall := steps_trans hready (payload_run (h.advance ..) hpay hd rfl)
  exact hall.trans (congrArg _ (State.advance_advance (s.setBrstat ⟨0x00#8, 0x00#8⟩) ..))

/-- `s` as its command's read frame leaves it over a ready bridge, with the payload `d` of `n` bytes just read. -/
def State.atPayload (s : State) (chunks : List (List Byte)) (n : Nat) (d : List Byte)
    (rest : List BusAnswer) : State :=
  (s.setBrstat ⟨0x00#8, 0x00#8⟩).advance (.gotPayload (some d)) (crc16 0x0000#16 chunks.flatten) rest 8
    (.select s.deviceId true :: (readyEvents chunks (crc16 0x0000#16 chunks.flatten) ++ [.read n (some d)]))

/-- A command that reads a frame, from its start to the payload. -/
theorem command_read_run {chunks : List (List Byte)} (hs : s.runsAt i .start none) (hturns : s.env.turns = [])
    (hargs : argsIllegal Config.params i s = false) (hf : frameOf Config.params i s none = some f)
    (hchunks : f.chunks = chunks) (hl : chunks.length = 3) (hpay : f.payload = some n) (hd : d.length = n)
    (hanswers : s.env.answers = [.yes, .yes, .yes, .yes, .yes, .sample false, .got [0x00#8, 0x00#8], .got d] ++
      rest) :
    steps 8 s = .next (s.atPayload chunks n d rest) := by
  subst hchunks
  have hselect := select_run (busCommands_of_frame hf) hs hturns hargs hanswers
  have hframe := frame_read_run (rest := rest) hl hpay (inFrame_selected hs hturns hf _) hd rfl
  have hall := steps_trans hselect hframe
  exact hall.trans (congrArg _ (State.advance_advance (s.setBrstat ⟨0x00#8, 0x00#8⟩) ..))

theorem atPayload_runsAt (hs : s.runsAt i .start none) (chunks : List (List Byte)) (n : Nat) (d : List Byte)
    (rest : List BusAnswer) : (s.atPayload chunks n d rest).runsAt i (.gotPayload (some d)) none :=
  advance_runsAt (s := s.setBrstat ⟨0x00#8, 0x00#8⟩) hs

/-- The whole run of a command that is one read frame: the step after its payload is its last. -/
theorem command_read_done {chunks : List (List Byte)} (hs : s.runsAt i .start none)
    (hturns : s.env.turns = []) (hargs : argsIllegal Config.params i s = false)
    (hf : frameOf Config.params i s none = some f) (hchunks : f.chunks = chunks) (hl : chunks.length = 3)
    (hpay : f.payload = some n) (hd : d.length = n)
    (hanswers : s.env.answers = [.yes, .yes, .yes, .yes, .yes, .sample false, .got [0x00#8, 0x00#8], .got d] ++
      rest) (hexec : exec i (s.atPayload chunks n d rest) = .next t) : steps 9 s = .next t :=
  steps_trans (k := 1) (command_read_run hs hturns hargs hf hchunks hl hpay hd hanswers)
    (steps_one_of_exec (atPayload_runsAt hs chunks n d rest) hturns hexec)

/-- An ok payload is stored and returned to the command (R59, R108). -/
theorem exec_stored (hf : frameOf Config.params i s held = some f) (hpay : f.payload = some d.length)
    (hs : s.seq = .run c ⟨.gotPayload (some d), held⟩) :
    exec i s = .next (afterReturn Config.params i held (s.setBuf (s.buf.writeList 0 d)) d) := by
  rw [exec_of_move hs (.frame f hf (.store d _ hpay)), FrameStep.done, FrameStep.into, storePayload,
    List.take_length]

/-! ## A frame over a busy bridge (R105, R112) -/

/-- What a frame with checksum `sum` does after its select, while the bridge shows busy `j + 1` times and the
expected wait is `wait` sleeps. -/
def busyEvents (ls : List (List Byte)) (sum : Half) (wait j : Nat) (sleep : BusEvent) : List BusEvent :=
  writeEvents ls sum ++ .readBit (some true) :: (List.replicate wait sleep ++
    (List.replicate j [.readBit (some true), sleep]).flatten)

/-- From the start to the retry loop with `n` rounds to come, after `j` of its rounds. -/
theorem command_busy_run {j : Nat} (hs : s.runsAt i .start none) (hturns : s.env.turns = [])
    (hargs : argsIllegal Config.params i s = false) (hf : frameOf Config.params i s none = some f)
    (hl : f.chunks ≠ []) (hj : n + j = Config.params.retry)
    (hanswers : s.env.answers = .yes :: (List.replicate (f.chunks.length + 1) .yes ++
      .sample true :: (List.replicate j (.sample true) ++ rest))) :
    ∃ q, ToRetry Config.params f n q ∧ steps (f.chunks.length + f.expected + 2 * j + 3) s = .next
      (s.advance q (crc16 0x0000#16 f.chunks.flatten) rest (f.chunks.length + j + 3) (.select s.deviceId true ::
        busyEvents f.chunks (crc16 0x0000#16 f.chunks.flatten) f.expected j (unitSleep s))) := by
  have hselect := select_run (busCommands_of_frame hf) hs hturns hargs hanswers
  have hin := inFrame_selected hs hturns hf (List.replicate (f.chunks.length + 1) .yes ++
    .sample true :: (List.replicate j (.sample true) ++ rest))
  have hsend := send_run hl hin rfl
  obtain ⟨q, hq, hpoll⟩ := poll_busy_run (rest := rest) (hin.advance (.sentTrailer true) _ _ _ _) hj rfl
  have hall := steps_trans (steps_trans hselect hsend) hpoll
  rw [State.advance_advance, State.advance_advance] at hall
  have hsteps : 1 + (f.chunks.length + 1) + (1 + f.expected + 2 * j) =
      f.chunks.length + f.expected + 2 * j + 3 := by omega
  have hanswered : 1 + (f.chunks.length + 1 + (j + 1)) = f.chunks.length + j + 3 := by omega
  rw [hsteps, hanswered] at hall
  exact ⟨q, hq, hall⟩

/-! ## The frames' bytes and the argument checks -/

theorem writeFrame_chunks_nil (p : Params) (speed : BitVec 2) (a7 : BitVec 7) (reg : Byte) :
    (writeFrame p speed a7 reg []).chunks = [[p.opcWr, a7 ++ 0#1], [0x01#8, reg]] := by
  rw [writeFrame, addressByte_eq_append]
  rfl

theorem writeFrame_chunks_of_ne_nil {pay : List Byte} (hpay : pay ≠ []) (p : Params) (speed : BitVec 2)
    (a7 : BitVec 7) (reg : Byte) : (writeFrame p speed a7 reg pay).chunks =
      [[p.opcWr, a7 ++ 0#1], [BitVec.ofNat 8 (pay.length + 1), reg], pay] := by
  have hempty : pay.isEmpty = false := List.isEmpty_eq_false_iff.2 hpay
  simp [writeFrame, addressByte_eq_append, hempty]

/-- The bytes of a write frame's checksum: the header, then the payload (R101, R104). -/
theorem writeFrame_bytes (opc a7 len reg : Byte) (pay : List Byte) :
    [[opc, a7], [len, reg], pay].flatten = [opc, a7, len, reg] ++ pay := by simp

theorem readFrame_chunks (p : Params) (speed : BitVec 2) (a7 : BitVec 7) (reg : Byte) (n : Nat) :
    (readFrame p speed a7 reg n).chunks = [[p.opcWrRd, a7 ++ 0#1, 0x01#8], [reg], [BitVec.ofNat 8 n]] := by
  rw [readFrame, addressByte_eq_append]

/-- The bytes of a read frame's checksum (R101, R108). -/
theorem readFrame_bytes (opc a7 one reg count : Byte) :
    [[opc, a7, one], [reg], [count]].flatten = [opc, a7, one, reg, count] := by simp

theorem speedIllegal_eq_false (h : s.cfg.speed ≠ 3#2) : s.speedIllegal = false := by
  rw [← Bool.not_eq_true]
  exact fun hs => h ((speedIllegal_iff s).1 hs)

theorem lenTooLong_eq_false (h : s.xfer.len.toNat ≤ 16) : s.lenTooLong = false := by
  rw [← Bool.not_eq_true]
  exact fun hs => Nat.not_lt.2 h ((lenTooLong_iff s).1 hs)

theorem brWrite_legal (hlen : s.xfer.len.toNat ≤ 16) (hspeed : s.cfg.speed ≠ 3#2) :
    argsIllegal Config.params .brWrite s = false := by
  rw [argsIllegal, lenTooLong_eq_false hlen, speedIllegal_eq_false hspeed]
  rfl

theorem brRead_legal (hpos : 1 ≤ s.xfer.len.toNat) (hlen : s.xfer.len.toNat ≤ 16)
    (hspeed : s.cfg.speed ≠ 3#2) : argsIllegal Config.params .brRead s = false := by
  have hne : (s.len == 0) = false := beq_eq_false_iff_ne.2 (Nat.ne_of_gt hpos)
  rw [argsIllegal, hne, lenTooLong_eq_false hlen, speedIllegal_eq_false hspeed]
  rfl

theorem lx_legal (hi : i = .lxInit ∨ i = .lxRead) (hspeed : s.cfg.speed ≠ 3#2)
    (hselection : s.selectionIllegal Config.params = false) : argsIllegal Config.params i s = false := by
  obtain rfl | rfl := hi <;> rw [argsIllegal, speedIllegal_eq_false hspeed, hselection] <;> rfl

/-! ## The statements about write frames -/

/-- Settles O37, by whether there is a payload. -/
theorem brWriteCompletes : Obligations.BrWriteCompletes := by
  refine ⟨fun s c hs => exec_endWrite (.inl rfl) hs, ?_⟩
  intro s rest n pay bytes sum writes hs hturns hlen hspeed hanswers
  have hargs := brWrite_legal hlen hspeed
  have hpayLen : pay.length = n := by simp [pay]
  have hframe : frameOf Config.params .brWrite s none =
      some (writeFrame Config.params s.cfg.speed s.xfer.addr s.xfer.reg pay) := rfl
  by_cases hn : n = 0
  · have hpay : pay = [] := List.eq_nil_of_length_eq_zero (hpayLen.trans hn)
    have hwrites : writes = 3 := if_pos hn
    rw [hpay] at hframe
    have hchunks := writeFrame_chunks_nil Config.params s.cfg.speed s.xfer.addr s.xfer.reg
    have hrun := write_run (rest := rest) (.inl rfl) hs hturns hargs hframe (by simp [hchunks])
      (by rw [hanswers, hwrites, hchunks]; rfl)
    rw [hchunks] at hrun
    rw [hwrites, if_pos hn]
    simp only [sum, bytes, hpay, hn]
    exact hrun
  · have hpay : pay ≠ [] := by rintro h; rw [h] at hpayLen; exact hn hpayLen.symm
    have hwrites : writes = 4 := if_neg hn
    have hchunks := writeFrame_chunks_of_ne_nil hpay Config.params s.cfg.speed s.xfer.addr s.xfer.reg
    have hrun := write_run (rest := rest) (.inl rfl) hs hturns hargs hframe (by simp [hchunks])
      (by rw [hanswers, hwrites, hchunks]; rfl)
    rw [hchunks, writeFrame_bytes, hpayLen] at hrun
    rw [hwrites, if_neg hn]
    exact hrun

/-- Settles O55: the payload of a valid selection is not empty (R7). -/
theorem lxInitCompletes : Obligations.LxInitCompletes := by
  refine ⟨fun s c hs => exec_endWrite (.inr rfl) hs, ?_⟩
  intro s rest pay sum hs hturns hspeed hgain htime hanswers
  have hargs := lx_legal (.inl rfl) hspeed (by
    rw [← Bool.not_eq_true, selectionIllegal_iff]
    omega)
  have hpay : pay ≠ [] := List.ne_nil_of_length_pos (cfgVal_length _ _ hgain htime).1
  have hchunks := writeFrame_chunks_of_ne_nil hpay Config.params s.cfg.speed Config.params.lxAddr
    Config.params.lxRegCfg
  have hframe : frameOf Config.params .lxInit s none = some
      (writeFrame Config.params s.cfg.speed Config.params.lxAddr Config.params.lxRegCfg pay) := rfl
  have hrun := write_run (rest := rest) (.inr rfl) hs hturns hargs hframe (by simp [hchunks])
    (by rw [hanswers, hchunks]; rfl)
  rw [hchunks, writeFrame_bytes] at hrun
  exact hrun

end Sys2Proof.Machine
end

section
/-! The statements about whole runs of the reading commands and of a busy bridge (spec/41_bridge.md R105, R108,
R111, R112, spec/42_temperature.md R144, spec/43_illuminance.md R162). -/

namespace Sys2Proof.Machine

variable {f : Frame} {i : Instr} {s t : State} {c : Word} {pt : Point} {held : Option (List Byte)}
  {rest : List BusAnswer} {d : List Byte} {n : Nat}

/-! ## The read commands over a ready bridge -/

theorem brRead_exec_stored (hs : s.seq = .run c ⟨.gotPayload (some d), held⟩)
    (hd : d.length = s.xfer.len.toNat) : exec .brRead s = .next { s with
      buf := s.buf.writeList 0 d
      status := ⟨false, false, 0#3, s.status.wign⟩
      seq := .idle } := by
  have hpay : (brReadFrame Config.params s).payload = some d.length := congrArg some hd.symm
  rw [exec_stored rfl hpay hs]
  rfl

theorem btRead_exec_stored {a b : Byte} (hs : s.seq = .run c ⟨.gotPayload (some [a, b]), held⟩) :
    exec .btRead s = .next { s with
      buf := s.buf.writeList 0 [a, b]
      result := BitVec.ofInt 32 (btConv (a ++ b))
      status := ⟨false, false, 0#3, s.status.wign⟩
      seq := .idle } := by
  rw [exec_stored (i := .btRead) rfl rfl hs, afterReturn, btResult_eq]
  rfl

theorem lxRead_exec_stored {x y : Byte} {a b : Nat} (hs : s.seq = .run c ⟨.gotPayload (some [x, y]), held⟩)
    (ha : Config.params.gainLut[s.cfg.gsel.toNat]? = some a)
    (hb : Config.params.itLut[s.cfg.isel.toNat]? = some b) : exec .lxRead s = .next { s with
      buf := s.buf.writeList 0 [x, y]
      result := BitVec.ofNat 32 ((lxRaw Config.params [x, y]).toNat * (36 * a * b) / 1000)
      status := ⟨false, false, 0#3, s.status.wign⟩
      seq := .idle } := by
  rw [exec_stored (i := .lxRead) rfl rfl hs, afterReturn,
    lxResult_of_entries (s := s.setBuf (s.buf.writeList 0 [x, y])) ha hb]
  rfl

/-- Settles O38. -/
theorem brReadCompletes : Obligations.BrReadCompletes := by
  refine ⟨fun s c d hs hd => brRead_exec_stored hs hd, ?_⟩
  intro s rest d n sum hs hturns hpos hlen hspeed hd hanswers
  have hchunks : (brReadFrame Config.params s).chunks = _ := readFrame_chunks ..
  refine command_read_done hs hturns (brRead_legal hpos hlen hspeed) rfl hchunks rfl rfl hd hanswers ?_
  rw [brRead_exec_stored (atPayload_runsAt hs _ _ d rest) hd, State.atPayload, readFrame_bytes]
  rfl

/-- Settles O49. -/
theorem btReadCompletes : Obligations.BtReadCompletes := by
  refine ⟨fun s c a b hs => btRead_exec_stored hs, ?_⟩
  intro s rest a b sum hs hturns hspeed hanswers
  have hchunks : (btFrame Config.params Config.params.btRegTa s).chunks = _ := readFrame_chunks ..
  refine command_read_done hs hturns (speedIllegal_eq_false hspeed) rfl hchunks rfl rfl rfl hanswers ?_
  rw [btRead_exec_stored (atPayload_runsAt hs _ _ [a, b] rest)]
  simp only [State.atPayload, State.advance, State.setBrstat, readFrame_bytes]
  rfl

/-- Settles O54. -/
theorem lxReadCompletes : Obligations.LxReadCompletes := by
  refine ⟨?lastStep, ?run⟩
  case lastStep =>
    intro s c x y a b hs ha hb raw
    exact lxRead_exec_stored hs ha hb
  case run =>
    intro s rest x y a b sum raw hs hturns hspeed ha hb hanswers
    have hargs := lx_legal (.inr rfl) hspeed (selectionIllegal_eq_false_iff.2 ⟨a, b, ha, hb⟩)
    have hchunks : (lxReadFrame Config.params s).chunks = _ := readFrame_chunks ..
    refine command_read_done hs hturns hargs rfl hchunks rfl rfl rfl hanswers ?_
    rw [lxRead_exec_stored (atPayload_runsAt hs _ _ [x, y] rest) ha hb]
    simp only [State.atPayload, State.advance, State.setBrstat, readFrame_bytes]
    rfl

/-! ## A busy bridge (R105, R112) -/

/-- The place a command reaches in its frame. -/
theorem advance_inFrame {acc : Half} {events : List BusEvent} (hs : s.runsAt i .start none)
    (hturns : s.env.turns = []) (hf : frameOf Config.params i s none = some f) (q : Point) :
    InFrame i (encode i) none f (s.advance q acc rest n events) q :=
  (InFrame.mk (pt := .start) hs (decodeWord_encode i) hf hturns).advance ..

/-- A bridge that shows busy `j + 1` times before it shows ready, from the start to the status bytes. -/
theorem command_awaited_run {j : Nat} (hs : s.runsAt i .start none) (hturns : s.env.turns = [])
    (hargs : argsIllegal Config.params i s = false) (hf : frameOf Config.params i s none = some f)
    (hl : f.chunks ≠ []) (hj : j < Config.params.retry)
    (hanswers : s.env.answers = .yes :: (List.replicate (f.chunks.length + 1) .yes ++ .sample true ::
      (List.replicate j (.sample true) ++ .sample false :: .got [0x00#8, 0x00#8] :: rest))) :
    steps (f.chunks.length + f.expected + 2 * j + 5) s = .next (s.advance (.gotStatus (some [0x00#8, 0x00#8]))
      (crc16 0x0000#16 f.chunks.flatten) rest (f.chunks.length + j + 5) (.select s.deviceId true ::
        (busyEvents f.chunks (crc16 0x0000#16 f.chunks.flatten) f.expected j (unitSleep s) ++
          [.readBit (some false), .read 2 (some [0x00#8, 0x00#8])]))) := by
  obtain ⟨m, hm⟩ := Nat.exists_eq_add_of_le' (Nat.succ_le_of_lt hj)
  obtain ⟨q, hq, hbusy⟩ := command_busy_run (n := m + 1) (j := j) hs hturns hargs hf hl (by omega) hanswers
  have hall := steps_trans hbusy (retry_ready_run (advance_inFrame hs hturns hf q) hq rfl rfl)
  rwa [State.advance_advance] at hall

/-- With no round left the command ends with TimeoutError (R105). -/
theorem brRead_exec_timeout (hf : frameOf Config.params .brRead s none = some f)
    (hpt : ToRetry Config.params f 0 pt) (hs : s.seq = .run c ⟨pt, none⟩) : exec .brRead s = .next { s with
      status := ⟨false, true, 3#3, s.status.wign⟩
      seq := .idle } := by
  rw [exec_of_raised (i := .brRead) hs nofun (.frame f hf (.timeout hpt)), raise_of_ran (e := .timeoutError) nofun]
  rfl

/-- Settles O40: no round of the retry loop is left. -/
theorem busyBridgeTimesOut : Obligations.BusyBridgeTimesOut := by
  intro s rest n sum wait unit hs hturns hpos hlen hspeed hanswers
  have hframe : frameOf Config.params .brRead s none = some (brReadFrame Config.params s) := rfl
  have hchunks : (brReadFrame Config.params s).chunks = _ := readFrame_chunks ..
  have hexpected : (brReadFrame Config.params s).expected = wait := rfl
  obtain ⟨q, hq, hrun⟩ := command_busy_run (n := 0) (j := 100) (rest := rest) hs hturns
    (brRead_legal hpos hlen hspeed) hframe (by simp [hchunks]) rfl (by rw [hanswers, hchunks]; rfl)
  rw [hchunks, readFrame_bytes, hexpected] at hrun
  have hin := advance_inFrame (rest := rest) (n := 106) (acc := sum) (events := .select s.deviceId true ::
    busyEvents [[Config.params.opcWrRd, s.xfer.addr ++ 0#1, 0x01#8], [s.xfer.reg], [BitVec.ofNat 8 n]] sum wait 100
      unit) hs hturns hframe q
  have hall := steps_trans hrun
    (steps_one_of_exec hin.seq hturns (brRead_exec_timeout hin.frame hq hin.seq))
  have hsteps : 3 + wait + 2 * 100 + 3 + 1 = wait + 207 := by omega
  rw [← hsteps]
  refine hall.trans ?_
  simp only [State.advance, busyEvents, writeEvents, List.map_cons, List.map_nil, List.cons_append,
    List.nil_append]
  rfl

/-- Settles O39: after `k - 1` rounds of the retry loop its next sample is 0. -/
theorem busyBridgeIsAwaited : Obligations.BusyBridgeIsAwaited := by
  intro s rest k n pay bytes sum wait unit hs hturns hpos hlen hspeed hk hretry hanswers
  obtain ⟨j, rfl⟩ : ∃ j, k = j + 1 := ⟨k - 1, by omega⟩
  have hpayLen : pay.length = n := by simp [pay]
  have hpay : pay ≠ [] := List.ne_nil_of_length_pos (by omega)
  have hframe : frameOf Config.params .brWrite s none =
      some (writeFrame Config.params s.cfg.speed s.xfer.addr s.xfer.reg pay) := rfl
  have hchunks := writeFrame_chunks_of_ne_nil hpay Config.params s.cfg.speed s.xfer.addr s.xfer.reg
  have hexpected : (writeFrame Config.params s.cfg.speed s.xfer.addr s.xfer.reg pay).expected = wait :=
    congrArg (Config.params.expectW s.cfg.speed) hpayLen
  have hrun := command_awaited_run (j := j) (rest := rest) hs hturns (brWrite_legal hlen hspeed) hframe
    (by simp [hchunks]) hretry (by rw [hanswers, hchunks]; simp [List.replicate_succ])
  rw [hchunks, writeFrame_bytes, hexpected, hpayLen] at hrun
  have hall := steps_trans hrun (steps_one_of_exec (advance_runsAt hs) hturns
    (exec_endWrite (.inl rfl) (advance_runsAt hs)))
  have hsteps : 3 + wait + 2 * j + 5 + 1 = wait + 2 * (j + 1) + 7 := by omega
  have hanswered : 3 + j + 5 = j + 1 + 7 := by omega
  rw [← hsteps, ← hanswered]
  refine hall.trans ?_
  simp only [State.advance, busyEvents, writeEvents, List.map_cons, List.map_nil, List.cons_append,
    List.nil_append, List.append_assoc]
  rfl

end Sys2Proof.Machine
end

section
/-! The run of a BT_PROBE that matches (spec/42_temperature.md R143). -/

namespace Sys2Proof.Machine

variable {s : State} {rest : List BusAnswer} {d : List Byte} {m1 m0 d1 d0 : Byte}

/-- A register's two bytes, the more significant one first, are the register. -/
theorem extractBytes_append (x : Half) : x.extractLsb' 8 8 ++ x.extractLsb' 0 8 = x := by
  have hjoin : x.extractLsb' (0 + 8) 8 ++ x.extractLsb' 0 8 = x.extractLsb' 0 (8 + 8) :=
    BitVec.extractLsb'_append_extractLsb'_eq_extractLsb' rfl
  exact hjoin.trans BitVec.extractLsb'_eq_self

theorem read_writeList_pair {m : Memory} {a b : Byte} (h : m.wf) :
    (m.writeList 0 [a, b]).read 0 = a ∧ (m.writeList 0 [a, b]).read 1 = b := by
  rw [Memory.read_writeList _ _ _ _ h, Memory.read_writeList _ _ _ _ h]
  exact ⟨rfl, rfl⟩

/-- `s` after the hand-over from BT_PROBE's first frame to its second, the bytes `d` just received. -/
def State.handedOver (s : State) (d : List Byte) (rest : List BusAnswer) : State :=
  { s with
    buf := s.buf.writeList 0 d
    seq := .run (encode .btProbe) ⟨.selected true, some d⟩
    env := s.env.after rest 1 [.select s.deviceId true] }

theorem handOver_run (hs : s.runsAt .btProbe (.gotPayload (some d)) none) (hturns : s.env.turns = [])
    (hd : d.length = 2) (hanswers : s.env.answers = .yes :: rest) :
    steps 1 s = .next (s.handedOver d rest) := by
  have hexec := exec_btProbe_handOver hd hs
  rw [answer_cons hanswers, hanswers] at hexec
  exact steps_one_of_exec hs hturns hexec

/-- The verdict on two registers that match (R143). -/
theorem exec_btProbe_match {c : Word} (hs : s.seq = .run c ⟨.gotPayload (some [d1, d0]), some [m1, m0]⟩)
    (hmfr : m1 ++ m0 = Config.params.btMfrId) (hdev : d1 ++ d0 = Config.params.btDevId) :
    exec .btProbe s = .next { s with
      buf := s.buf.writeList 0 [d1, d0]
      result := 1#32
      status := ⟨false, false, 0#3, s.status.wign⟩
      seq := .idle } := by
  have hmatch : m1 ++ m0 = Config.params.btMfrId ∧ d1 ++ d0 = Config.params.btDevId := ⟨hmfr, hdev⟩
  rw [(btProbeCompletes s c).1 m1 m0 d1 d0 hs]
  simp only [if_pos hmatch]

/-- The whole second frame of a BT_PROBE that matches: the hand-over, the frame, the verdict. -/
theorem second_frame_run (hs : s.runsAt .btProbe (.gotPayload (some [m1, m0])) none) (hturns : s.env.turns = [])
    (hmfr : m1 ++ m0 = Config.params.btMfrId) (hdev : d1 ++ d0 = Config.params.btDevId)
    (hanswers : s.env.answers = [.yes, .yes, .yes, .yes, .yes, .sample false, .got [0x00#8, 0x00#8],
      .got [d1, d0]] ++ rest) :
    let head := [Config.params.opcWrRd, Config.params.btAddr ++ 0#1, 0x01#8]
    let sum := crc16 0x0000#16 (head ++ [Config.params.btRegDev, 0x02#8])
    steps 9 s = .next { s with
      acc := sum
      brstat := ⟨0x00#8, 0x00#8⟩
      buf := (s.buf.writeList 0 [m1, m0]).writeList 0 [d1, d0]
      result := 1#32
      status := ⟨false, false, 0#3, s.status.wign⟩
      seq := .idle
      env := s.env.after rest 8 (.select s.deviceId true ::
        (readyEvents [head, [Config.params.btRegDev], [0x02#8]] sum ++ [.read 2 (some [d1, d0])])) } := by
  intro head sum
  have hhand := handOver_run hs hturns rfl hanswers
  have hchunks : (btFrame Config.params Config.params.btRegDev s).chunks = _ := readFrame_chunks ..
  have hin (answers : List BusAnswer) : InFrame .btProbe (encode .btProbe) (some [m1, m0])
      (btFrame Config.params Config.params.btRegDev s) (s.handedOver [m1, m0] answers) (.selected true) :=
    ⟨rfl, decodeWord_encode _, rfl, hturns⟩
  have hframe := frame_read_run (d := [d1, d0]) (rest := rest) (by rw [hchunks]; rfl) rfl (hin _) rfl rfl
  rw [hchunks, readFrame_bytes] at hframe
  have hall := steps_trans (steps_trans hhand hframe)
    (steps_one_of_exec (i := .btProbe) rfl hturns (exec_btProbe_match rfl hmfr hdev))
  refine hall.trans ?_
  simp only [State.advance, State.setBrstat, State.handedOver, Env.after_after]
  rfl

theorem atPayload_deviceId (s : State) (chunks : List (List Byte)) (n : Nat) (d : List Byte)
    (rest : List BusAnswer) : (s.atPayload chunks n d rest).deviceId = s.deviceId := rfl

/-- Settles O51: the first frame, the hand-over, the second frame, the verdict. -/
theorem btProbeMatches : Obligations.BtProbeMatches := by
  intro s rest head mfr dev sum answers events hs hturns hspeed hwf hanswers
  have hchunks : (btFrame Config.params Config.params.btRegMfr s).chunks = _ := readFrame_chunks ..
  have hfirst := command_read_run (d := mfr) (rest := answers dev ++ rest) hs hturns
    (speedIllegal_eq_false hspeed) rfl hchunks rfl rfl rfl (hanswers.trans (List.append_assoc ..))
  have hall := steps_trans hfirst (second_frame_run (atPayload_runsAt hs ..) hturns (extractBytes_append _)
    (extractBytes_append _) rfl)
  rw [atPayload_deviceId] at hall
  simp only [State.atPayload, State.advance, State.setBrstat, readFrame_bytes, Env.after_after] at hall
  have hstored : (s.buf.writeList 0 mfr).wf := Memory.writeList_wf mfr s.buf 0 hwf
  refine ⟨_, hall, rfl, rfl, rfl, ?acc, rfl, ?read0, ?read1, ?env⟩
  case acc => simp only [sum, head]
  case read0 => exact (read_writeList_pair hstored).1
  case read1 => exact (read_writeList_pair hstored).2
  case env =>
    simp only [events, sum, head, readyEvents, writeEvents, List.map_cons, List.map_nil, List.cons_append,
      List.nil_append, Nat.reduceAdd]
    rfl

end Sys2Proof.Machine
end
